-- ==== Sys2Proof/Word.lean ====
section
/-! DEFINITION. The word types of the KU460: bytes, and the 16-bit and 32-bit unsigned counts and stamps that the manual
reports as words. Point values, limits and settings are numbers (Int, Nat), not words. -/

namespace Sys2Proof

abbrev Byte := BitVec 8
abbrev Word16 := BitVec 16
abbrev Word32 := BitVec 32

end Sys2Proof
end

