-- ==== Sys2Proof/Machine/Crc.lean ====
section
/-! DEFINITION. The check values of R198: each byte enters most significant bit first, with no reflection. -/

namespace Sys2Proof.Machine

/-- One bit of a most-significant-bit-first division by the polynomial. -/
def crcBit {w : Nat} (poly crc : BitVec w) : BitVec w :=
  if crc.msb then (crc <<< 1) ^^^ poly else crc <<< 1

/-- One byte enters the check value. -/
def crcByte {w : Nat} (poly crc : BitVec w) (b : Byte) : BitVec w :=
  let c0 := crc ^^^ (b.setWidth w <<< (w - 8))
  let c4 := crcBit poly (crcBit poly (crcBit poly (crcBit poly c0)))
  crcBit poly (crcBit poly (crcBit poly (crcBit poly c4)))

/-- R198: the chain CRC-8, polynomial 0x2F, initial value 0xFF, no final inversion. -/
def crc8 (bytes : List Byte) : Byte := bytes.foldl (crcByte 0x2F#8) 0xFF#8

/-- R186, R198: the CRC-16, polynomial 0x1021, initial value 0xFFFF, no final inversion. -/
def crc16 (bytes : List Byte) : Word16 := bytes.foldl (crcByte 0x1021#16) 0xFFFF#16

/-- R198: the image CRC-32, polynomial 0x04C11DB7, initial value 0xFFFFFFFF, final inversion. -/
def crc32 (bytes : List Byte) : Word32 := ~~~ (bytes.foldl (crcByte 0x04C11DB7#32) 0xFFFFFFFF#32)

end Sys2Proof.Machine
end

