-- ==== Sys2Proof/Syntax.lean ====
section
/-! DEFINITION. The commands of the KU460: one constructor per row of the table of operations and events. A request
carries its body, as bytes, in the layout of Formats (11.4); the other commands carry what arrives with the event. -/

namespace Sys2Proof

/-- 5.1: the three internal converters of Pack Sense. -/
inductive Converter where
  | shuntCurrent
  | packVoltage
  | busVoltage
  deriving DecidableEq, Repr

/-- 5.3: the five discrete lines as one sample reads their pins; true is a high pin. -/
structure LineLevels where
  auxNeg : Bool
  auxPos : Bool
  crash : Bool
  wake : Bool
  lid : Bool
  deriving DecidableEq, Repr

inductive Instr where
  -- supply, start-up and port
  | powerOn
  | powerLoss
  | storeLoadEnd
  | writeTransactionBegin
  | readTransaction (clocked : Nat)
  | frameError (frame : List Byte)
  | unknownRequest (code : Byte) (body : List Byte)
  -- requests on points
  | enlist (body : List Byte)
  | lookup (body : List Byte)
  | amend (body : List Byte)
  | amendg (body : List Byte)
  | retire (body : List Byte)
  | release (body : List Byte)
  | changes (body : List Byte)
  | qinhib (body : List Byte)
  -- requests of the Frame Clock and the Chain Controller
  | setfrm (body : List Byte)
  | qfrm (body : List Byte)
  | spot (body : List Byte)
  | discov (body : List Byte)
  | mstat (body : List Byte)
  | qchain (body : List Byte)
  -- requests of the Contactor Sequencer
  | close (body : List Byte)
  | openRequest (body : List Byte)
  | trip (body : List Byte)
  | clrlock (body : List Byte)
  | qcont (body : List Byte)
  -- requests of the Power Manager
  | sleep (body : List Byte)
  | wake (body : List Byte)
  | qpower (body : List Byte)
  | reset (body : List Byte)
  -- requests of the Update Engine
  | uopen (body : List Byte)
  | ustage (body : List Byte)
  | ucommit (body : List Byte)
  | uabandon (body : List Byte)
  | qstore (body : List Byte)
  | keyinst (body : List Byte)
  | finlock (body : List Byte)
  | clrtamp (body : List Byte)
  -- requests of the Attention Unit
  | status (body : List Byte)
  | mask (body : List Byte)
  | ident (body : List Byte)
  -- events of the Frame Clock, Pack Sense, the ring and the Power Manager
  | frameStart
  | slotStart
  | captureDelivery (converter : Converter) (reading : Int)
  | blockReply (message : List Byte)
  | readWaitExpiry
  | enumDelayExpiry
  | enumReply (message : List Byte)
  | enumSilenceExpiry
  | sleepTimerExpiry
  | lineSample (levels : LineLevels)
  -- events of the Contactor Sequencer
  | inhibitNotice
  | tripNotice
  | referenceSample
  | auxConfirmExpiry
  | prechargeTimeoutExpiry
  | deferMaxExpiry
  | dropoutExpiry
  -- events of the Nonvolatile Store and the Update Engine
  | counterWriteEnd (readBackMatches : Bool)
  | bankWriteUnitEnd (readBackMatches : Bool)
  | keyWriteEnd (readBackMatches : Bool)
  | verifyComplete
  deriving DecidableEq, Repr

end Sys2Proof
end

