-- ==== Sys2Proof/Machine/State.lean ====
section
/-! DEFINITION. Everything the KU460 holds, block by block, as plain data; the reasons a step can stop; and the state
right after reset. Section numbers and rules are those of the spec's chapters. -/

namespace Sys2Proof.Machine

/-! ## Points (chapter 1) -/

/-- R2: what a point measures. -/
inductive Kind where
  | cellV | cellT | packI | packV | busV | aggMax | aggMin | aggSpread
  deriving DecidableEq, Repr

/-- R9: the guard class. -/
inductive Guard where
  | changeable | guarded
  deriving DecidableEq, Repr

/-- R7: the set of actions, in the order REPORT, INHIBIT, OPEN, WAKE. -/
structure Actions where
  report : Bool
  inhibit : Bool
  opens : Bool
  wakes : Bool
  deriving DecidableEq, Repr

/-- R6: the four limits, each optional, in the unit of the point's kind. -/
structure Limits where
  lowTrip : Option Int
  lowWarn : Option Int
  highWarn : Option Int
  highTrip : Option Int
  deriving DecidableEq, Repr

/-- R1: the definition of a point. -/
structure Definition where
  kind : Kind
  guard : Guard
  monitor : Option Nat
  channel : Option Nat
  slot : Option Nat
  divider : Nat
  limits : Limits
  hysteresis : Nat
  persistence : Nat
  actions : Actions
  staleTrips : Bool
  sleepDivider : Option Nat
  members : List Nat
  deriving DecidableEq, Repr

/-- 2.1: the judgement held for a LIVE point. -/
inductive Condition where
  | idle | normal | warn | tripped | stale
  deriving DecidableEq, Repr

inductive TripCause where
  | limitHigh | limitLow | stale
  deriving DecidableEq, Repr

/-- A value and the number of the frame that gave it (R10: value_frame is present with value). -/
structure Sample where
  value : Int
  frame : Word32
  deriving DecidableEq, Repr

inductive SpotOutcome where
  | ok | failed
  deriving DecidableEq, Repr

/-- R35: the spot record. -/
structure Spot where
  value : Option Int
  frame : Word32
  outcome : SpotOutcome
  deriving DecidableEq, Repr

/-- R10: the live part. -/
structure Live where
  condition : Condition
  sample : Option Sample
  missed : Nat
  excursion : Nat
  tripCause : Option TripCause
  spot : Option Spot
  amended : Bool
  deriving DecidableEq, Repr

/-- R12: the amended fields of a request or a pending part; for a limit and the sleep part `some none` is a removal. -/
structure Change where
  slot : Option Nat
  divider : Option Nat
  lowTrip : Option (Option Int)
  lowWarn : Option (Option Int)
  highWarn : Option (Option Int)
  highTrip : Option (Option Int)
  hysteresis : Option Nat
  persistence : Option Nat
  actions : Option Actions
  staleTrips : Option Bool
  sleepDivider : Option (Option Nat)
  deriving DecidableEq, Repr

/-- R12: the pending part of a LIVE point. -/
inductive PendingPart where
  | fields (change : Change)
  | retire
  deriving DecidableEq, Repr

/-- R1: a point record, which parts it has depending on the lifecycle. -/
inductive Point where
  | vacant
  | enlisting (definition : Definition)
  | live (definition : Definition) (part : Live) (waiting : Option PendingPart)
  deriving DecidableEq, Repr

/-- R40, R41, R102: what the Point Table sends to the Contactor Sequencer. -/
inductive Notice where
  | inhibit (id : Nat)
  | trip (id : Nat)
  | reference (id : Nat) (value : Int)
  deriving DecidableEq, Repr

/-- The Point Table: records, inhibit set (R39), changed-point set (R43), both ascending without repeats, and the
notices sent and not yet taken, oldest first (R40). -/
structure PointTable where
  points : Vector Point 384
  inhibitSet : List Nat
  changedSet : List Nat
  notices : List Notice
  deriving DecidableEq, Repr

/-! ## The Frame Clock (chapter 3) -/

/-- R48: one record of frame parameters. -/
structure FrameParams where
  frameLength : Nat
  slotCount : Nat
  sleepPeriod : Nat
  monitorCount : Nat
  deriving DecidableEq, Repr

/-- R48: the pending record of a plain SETFRM. -/
structure PendingParams where
  frameLength : Nat
  slotCount : Nat
  sleepPeriod : Nat
  deriving DecidableEq, Repr

/-- R51: the clock state; in SLOT with its number and whether its round is RUNNING. -/
inductive ClockPhase where
  | stopped
  | slot (k : Nat) (running : Bool)
  | tail
  deriving DecidableEq, Repr

/-- R63: one item of the tail queue. -/
inductive TailItem where
  | spot (id : Nat)
  | mstat (monitor : Nat) (clear : Bool)
  deriving DecidableEq, Repr

structure FrameClock where
  active : FrameParams
  waiting : Option PendingParams
  /-- R52: the number of the frame last opened. -/
  number : Word32
  /-- R52: whether a frame has been opened since start-up. -/
  opened : Bool
  phase : ClockPhase
  /-- R53: the frame timer, with the frame_length in ms it was armed with. -/
  timer : Option Nat
  overruns : Word16
  discoveryPending : Bool
  discoveryRunning : Bool
  /-- R62: the frame in progress is given to discovery. -/
  given : Bool
  tail : List TailItem
  tailInFlight : Bool
  deriving DecidableEq, Repr

/-! ## The Monitor Chain (chapter 4) -/

inductive MonitorState where
  | absent | present | missing | faulted
  deriving DecidableEq, Repr

/-- R71: the failure kinds of a read attempt. -/
inductive FailureKind where
  | noReply | headerBad | mismatch | tagStale | dataBad
  deriving DecidableEq, Repr

inductive Block where
  | cells | temps | status
  deriving DecidableEq, Repr

inductive DiscoveryCause where
  | start | wake | request
  deriving DecidableEq, Repr

/-- 4.3: one roster entry; its address is its place. -/
structure RosterEntry where
  state : MonitorState
  consecutiveFailed : Nat
  failedReads : Word16
  lastFailure : Option FailureKind
  statusWords : Option (Word16 × Word16)
  deriving DecidableEq, Repr

/-- 4.2: on whose behalf a read is made. -/
inductive ReadOwner where
  | round
  | spot (id : Nat)
  | mstat
  deriving DecidableEq, Repr

/-- R71, R72: the read whose attempt waits for its reply. -/
structure Read where
  address : Nat
  block : Block
  clear : Bool
  second : Bool
  owner : ReadOwner
  deriving DecidableEq, Repr

/-- R58, R77, R140: a slot round or sleep round with chain work. -/
structure Round where
  inSleep : Bool
  points : List Nat
  monitors : List Nat
  queue : List (Nat × Block)
  failed : List Nat
  accepted : List Nat
  deriving DecidableEq, Repr

/-- R80, R85: what an enumeration of the ring is for. -/
inductive EnumPurpose where
  | discovery (cause : DiscoveryCause) (monitorCount : Nat)
  | sleepFrame
  deriving DecidableEq, Repr

/-- R80: an enumeration in progress: waiting out the 1 ms or listening, still counting or not, and the replies counted. -/
structure Enumeration where
  purpose : EnumPurpose
  listening : Bool
  counting : Bool
  found : Nat
  deriving DecidableEq, Repr

structure Chain where
  roster : Vector RosterEntry 16
  foundCount : Nat
  expected : Nat
  extra : Bool
  cause : DiscoveryCause
  sleepEntryCount : Nat
  tag : Byte
  round : Option Round
  read : Option Read
  enumeration : Option Enumeration
  /-- Every down message sent since start-up, oldest first (the output on CDN; log 14). -/
  sent : List (List Byte)
  deriving DecidableEq, Repr

/-! ## Pack Sense (chapter 5) -/

/-- R94, R96: a debounce stage. A level is true when it is the level of a high pin; `none` is UNKNOWN. -/
structure DebounceStage where
  level : Option Bool
  run : Nat
  runLevel : Option Bool
  runStamp : Option Word32
  /-- R96: the stamp of the change that set the level. -/
  setStamp : Option Word32
  deriving DecidableEq, Repr

/-- R89: for whom a converter holds its capture: the points of a round, and the SPOT item in service (log 36). -/
structure Capture where
  ids : List Nat
  spot : Option Nat
  deriving DecidableEq, Repr

structure Sense where
  time : Word32
  lines : LineLevels
  auxNeg : DebounceStage
  auxPos : DebounceStage
  crash : DebounceStage
  wake : DebounceStage
  lid : DebounceStage
  shunt : Option Capture
  packConv : Option Capture
  busConv : Option Capture
  deriving DecidableEq, Repr

/-! ## The Contactor Sequencer (chapter 6) -/

/-- 6.1: the contactor profile. -/
structure Profile where
  packPoint : Nat
  busPoint : Nat
  currentPoint : Nat
  prechargeRatio : Nat
  prechargeTimeout : Nat
  minPrecharge : Nat
  auxConfirm : Nat
  dropout : Nat
  breakLimit : Nat
  deferMax : Nat
  deriving DecidableEq, Repr

inductive SeqState where
  | opened | negClosing | precharging | posClosing | closed | deferring | opening | lockout
  deriving DecidableEq, Repr

inductive TimerName where
  | auxConfirm | precharge | defer | dropout
  deriving DecidableEq, Repr

/-- R104: the running timer: the sense time it is counted from and its length in counts of 0.1 ms. -/
structure SeqTimer where
  name : TimerName
  start : Word32
  counts : Nat
  deriving DecidableEq, Repr

/-- R123: the causes of last_cause and first_cause. -/
inductive Cause where
  | inhibit (id : Nat)
  | point (id : Nat)
  | requestedOpen | requestedTrip | crash | auxTimeoutNeg | auxTimeoutPos | prechargeFast | prechargeTimeout
  | auxLostNeg | auxLostPos | auxStuckNeg | auxStuckPos
  deriving DecidableEq, Repr

inductive LockoutCause where
  | weldNeg | weldPos | crash | auxStuckNeg | auxStuckPos
  deriving DecidableEq, Repr

/-- R117: the opening context. -/
structure OpeningContext where
  firstCause : Cause
  crashSeen : Bool
  negWasOn : Bool
  posWasOn : Bool
  deEnergizedAt : Word32
  loaded : Bool
  deriving DecidableEq, Repr

structure Sequencer where
  state : SeqState
  coilInstant : Word32
  timer : Option SeqTimer
  profile : Option Profile
  closeNeg : Word32
  closePos : Word32
  loadedNeg : Word32
  loadedPos : Word32
  lastCloseNeg : Option Word32
  lastClosePos : Option Word32
  lastOpenNeg : Option Word32
  lastOpenPos : Option Word32
  lastPrecharge : Option Word32
  lastCause : Option Cause
  lockoutCause : Option LockoutCause
  context : Option OpeningContext
  deriving DecidableEq, Repr

/-! ## Power states (chapter 7) -/

inductive PowerState where
  | loading | discovering | active | settling | deepSleep | sleepFrame | waking
  deriving DecidableEq, Repr

/-- R145: a set of wake causes, in the order of Formats. -/
structure WakeCauses where
  powerOn : Bool
  reset : Bool
  request : Bool
  line : Bool
  point : Bool
  chain : Bool
  tamper : Bool
  crash : Bool
  deriving DecidableEq, Repr

/-- R145: the wake record. -/
structure WakeRecord where
  causes : WakeCauses
  firstPoint : Option Nat
  sleepFrames : Word32
  entryFrame : Option Word32
  deriving DecidableEq, Repr

/-- R147, R148: a RESET accepted and pending, or begun and held. -/
inductive ResetPhase where
  | none | pending | held
  deriving DecidableEq, Repr

structure Power where
  state : PowerState
  wakeSet : WakeCauses
  firstPoint : Option Nat
  record : WakeRecord
  sleepFrame : Word32
  /-- R137: the sleep timer, with the sleep_period in seconds it was started with. -/
  sleepTimer : Option Nat
  entryFrame : Option Word32
  quiet : Bool
  reset : ResetPhase
  deriving DecidableEq, Repr

/-! ## The Nonvolatile Store (chapter 8) -/

/-- A bank's memory: address and byte, addresses rising, no byte equal to the erased 0xFF that an unlisted address
reads as (11.7). -/
abbrev Memory := List Host.Cell

/-- R149: the image of the guarded settings. -/
structure Image where
  points : Vector (Option Definition) 384
  profile : Option Profile
  frame : FrameParams
  deriving DecidableEq, Repr

inductive BankState where
  | empty | valid | interrupted | damaged
  deriving DecidableEq, Repr

inductive BankId where
  | bank0 | bank1
  deriving DecidableEq, Repr

inductive SlotId where
  | caA | caB
  deriving DecidableEq, Repr

inductive CopyId where
  | copyA | copyB
  deriving DecidableEq, Repr

/-- R150: the snapshot of a counter slot. -/
structure CounterSnapshot where
  closeNeg : Word32
  closePos : Word32
  loadedNeg : Word32
  loadedPos : Word32
  lockoutFlag : Bool
  lockoutCause : Option LockoutCause
  tamperLatch : Bool
  tamperCount : Word32
  deriving DecidableEq, Repr

/-- R150: what a load reads from the bytes of a counter slot: valid when its CRC-16 matches. -/
inductive CounterSlot where
  | invalid
  | valid (sequence : Word32) (snapshot : CounterSnapshot)
  deriving DecidableEq, Repr

/-- R162: the update key. -/
abbrev Key := Vector Byte 32

/-- R151: key state and key (`none` is EMPTY) and the final lock. -/
structure KeyRecord where
  key : Option Key
  finalLock : Bool
  deriving DecidableEq, Repr

/-- R151: what a load reads from the bytes of a key copy: VALID when its CRC-16 matches, ERASED, or BAD. -/
inductive KeyCopy where
  | erased
  | bad
  | valid (generation : Word32) (record : KeyRecord)
  deriving DecidableEq, Repr

/-- R150, R198: the bytes of a counter slot, its CRC-16 in the last two (log 9). -/
abbrev SlotBytes := Vector Byte 29

/-- R151, R198: the bytes of a key copy, its CRC-16 in the last two (log 9). -/
abbrev CopyBytes := Vector Byte 40

/-- R153: the units of a bank write. -/
inductive BankUnit where
  | header
  | page (k : Nat)
  | check
  | close
  | retract
  deriving DecidableEq, Repr

/-- R153: a bank write and its progress: the unit in progress, or the next one while suspended. -/
structure BankWrite where
  target : BankId
  version : Word32
  image : Image
  unit : BankUnit
  deriving DecidableEq, Repr

structure BankRequest where
  version : Word32
  image : Image
  deriving DecidableEq, Repr

structure CounterWrite where
  slot : SlotId
  sequence : Word32
  snapshot : CounterSnapshot
  /-- R133: SETTLING waits for this write. -/
  forSettling : Bool
  deriving DecidableEq, Repr

structure KeyWrite where
  copy : CopyId
  generation : Word32
  record : KeyRecord
  /-- The code of the request that waits for this write, KEYINST or FINLOCK. -/
  requester : Byte
  deriving DecidableEq, Repr

/-- R152: in_flight, with the write concerned. -/
inductive InFlight where
  | none
  | bank (write : BankWrite)
  | counter (write : CounterWrite)
  | key (write : KeyWrite)
  deriving DecidableEq, Repr

/-- R160: the findings of the last load. -/
structure Findings where
  blank : Bool
  bankDamaged : Bool
  bankInterrupted : Bool
  countersReset : Bool
  keyReset : Bool
  deriving DecidableEq, Repr

structure Store where
  bank0 : Memory
  bank1 : Memory
  state0 : BankState
  state1 : BankState
  activeBank : Option BankId
  activeVersion : Word32
  slotA : SlotBytes
  slotB : SlotBytes
  slotInForce : Option SlotId
  sequence : Word32
  keyA : CopyBytes
  keyB : CopyBytes
  keyInForce : Option CopyId
  inFlight : InFlight
  suspended : Option BankWrite
  counterPending : Bool
  /-- R133, R154: SETTLING's request is carried by the pending counter write. -/
  settlingWaits : Bool
  waiting : Option BankRequest
  failures : Word16
  findings : Findings
  ready : Bool
  deriving DecidableEq, Repr

/-! ## The Update Engine (chapter 9) -/

inductive UpdateState where
  | idle | staging | verifying | writing | applying
  deriving DecidableEq, Repr

/-- R167: the fields of a GROUP item. -/
structure GroupItem where
  kind : Kind
  first : Nat
  last : Nat
  limits : Limits
  hysteresis : Nat
  persistence : Nat
  deriving DecidableEq, Repr

/-- R166: one staged item. -/
inductive Item where
  | point (id : Nat) (definition : Definition)
  | remove (id : Nat)
  | group (fields : GroupItem)
  | profile (fields : Profile)
  | frame (fields : FrameParams)
  deriving DecidableEq, Repr

inductive Outcome where
  | applied | tagBad | invalid | writeFailed | tampered | abandoned | powerLost
  deriving DecidableEq, Repr

/-- R171: the reasons of INVALID. -/
inductive InvalidReason where
  | notStored | referenced | members | source | limits | profileRef | slot | sequencer
  deriving DecidableEq, Repr

/-- R182: the outcome record; index and reason stand for INVALID. -/
structure OutcomeRecord where
  outcome : Outcome
  version : Word32
  itemIndex : Option Nat
  reason : Option InvalidReason
  deriving DecidableEq, Repr

structure Engine where
  state : UpdateState
  stage : List Item
  version : Option Word32
  commitTag : Option (List Byte)
  outcome : Option OutcomeRecord
  tamperLatch : Bool
  tamperCount : Word32
  /-- R162: the key, present while the key state is INSTALLED. -/
  key : Option Key
  finalLock : Bool
  deriving DecidableEq, Repr

/-! ## Host Port and Attention (chapter 10) -/

/-- 10.2: the answer slot; WAITING holds the request code its answer will echo. -/
inductive AnswerSlot where
  | empty
  | waiting (code : Byte)
  | holding (frame : List Byte)
  deriving DecidableEq, Repr

/-- R185, R147, R195: the write transaction in progress; discarded is one whose beginning began a RESET. -/
inductive WriteTx where
  | none
  | begun
  | discarded
  deriving DecidableEq, Repr

structure Port where
  slot : AnswerSlot
  writeTx : WriteTx
  /-- R185: the bytes shifted out on HSDO in the last transaction (log 14). -/
  hsdo : List Byte
  deriving DecidableEq, Repr

/-- R190: a set of attention causes, in the order of Formats. -/
structure Causes where
  points : Bool
  contactor : Bool
  chain : Bool
  frame : Bool
  update : Bool
  power : Bool
  tamper : Bool
  store : Bool
  deriving DecidableEq, Repr

structure Attention where
  set : Causes
  mask : Causes
  deriving DecidableEq, Repr

/-- The levels the part drives: ATTN, HEN and the three coil drivers. -/
structure Pins where
  attn : Bool
  hen : Bool
  drvNeg : Bool
  drvPre : Bool
  drvPos : Bool
  deriving DecidableEq, Repr

/-! ## The machine -/

structure State where
  /-- VSUP is present. -/
  vsup : Bool
  pins : Pins
  port : Port
  table : PointTable
  clock : FrameClock
  chain : Chain
  sense : Sense
  seq : Sequencer
  power : Power
  store : Store
  engine : Engine
  attention : Attention
  /-- The number of free choices taken so far (log 11). -/
  freeIndex : Nat
  /-- The commands waiting, first in first out. -/
  pending : List Instr
  deriving DecidableEq, Repr

/-- No command stops the machine with a fault: the manual stops the part nowhere, and a request that cannot be done is
answered with a refusal code. Nobody raises a fault (safe). -/
inductive Fault where
  deriving DecidableEq, Repr

inductive Refusal where
  /-- Raised by an arm of `exec` whose command has no meaning yet; no arm raises it (safe). -/
  | notModelled (mnemonic : String)
  deriving DecidableEq, Repr

/-- 3.1: the frame parameters with a BLANK image. -/
def FrameParams.blank : FrameParams :=
  { frameLength := 100, slotCount := 8, sleepPeriod := 60, monitorCount := 0 }

def RosterEntry.blank : RosterEntry :=
  { state := .absent, consecutiveFailed := 0, failedReads := 0, lastFailure := none, statusWords := none }

def DebounceStage.unknown : DebounceStage :=
  { level := none, run := 0, runLevel := none, runStamp := none, setStamp := none }

def WakeCauses.none : WakeCauses :=
  { powerOn := false, reset := false, request := false, line := false, point := false, chain := false,
    tamper := false, crash := false }

def Causes.none : Causes :=
  { points := false, contactor := false, chain := false, frame := false, update := false, power := false,
    tamper := false, store := false }

def Causes.all : Causes :=
  { points := true, contactor := true, chain := true, frame := true, update := true, power := true,
    tamper := true, store := true }

def Findings.none : Findings :=
  { blank := false, bankDamaged := false, bankInterrupted := false, countersReset := false, keyReset := false }

/-- The machine right after reset: the entry to LOADING after power-on (R128), with an erased nonvolatile memory (log 6). -/
def State.reset : State :=
  { vsup := true
    pins := { attn := true, hen := true, drvNeg := false, drvPre := false, drvPos := false }
    port := { slot := .empty, writeTx := .none, hsdo := [] }
    table := { points := Vector.replicate 384 .vacant, inhibitSet := [], changedSet := [], notices := [] }
    clock :=
      { active := .blank, waiting := none, number := 0, opened := false, phase := .stopped, timer := none,
        overruns := 0, discoveryPending := false, discoveryRunning := false, given := false, tail := [],
        tailInFlight := false }
    chain :=
      { roster := Vector.replicate 16 .blank, foundCount := 0, expected := 0, extra := false, cause := .start,
        sleepEntryCount := 0, tag := 0, round := none, read := none, enumeration := none, sent := [] }
    sense :=
      { time := 0
        lines := { auxNeg := false, auxPos := false, crash := false, wake := false, lid := false }
        auxNeg := .unknown, auxPos := .unknown, crash := .unknown, wake := .unknown, lid := .unknown
        shunt := none, packConv := none, busConv := none }
    seq :=
      { state := .opened, coilInstant := 0, timer := none, profile := none
        closeNeg := 0, closePos := 0, loadedNeg := 0, loadedPos := 0
        lastCloseNeg := none, lastClosePos := none, lastOpenNeg := none, lastOpenPos := none
        lastPrecharge := none, lastCause := none, lockoutCause := none, context := none }
    power :=
      { state := .loading, wakeSet := .none, firstPoint := none
        record :=
          { causes := { WakeCauses.none with powerOn := true }, firstPoint := none, sleepFrames := 0,
            entryFrame := none }
        sleepFrame := 0, sleepTimer := none, entryFrame := none, quiet := false, reset := .none }
    store :=
      { bank0 := [], bank1 := [], state0 := .empty, state1 := .empty, activeBank := none, activeVersion := 0
        slotA := Vector.replicate 29 0xFF, slotB := Vector.replicate 29 0xFF, slotInForce := none, sequence := 0
        keyA := Vector.replicate 40 0xFF, keyB := Vector.replicate 40 0xFF, keyInForce := none
        inFlight := .none, suspended := none, counterPending := false, settlingWaits := false, waiting := none
        failures := 0, findings := .none, ready := false }
    engine :=
      { state := .idle, stage := [], version := none, commitTag := none, outcome := none, tamperLatch := false,
        tamperCount := 0, key := none, finalLock := false }
    attention := { set := { Causes.none with power := true }, mask := .all }
    freeIndex := 0
    pending := [] }

end Sys2Proof.Machine
end

