-- ==== Sys2Proof/Machine/Formats.lean ====
section
/-! DEFINITION. The byte layouts of chapter 11: codes, enumerations, records, items, images, frames and down messages,
each as the bytes the part writes. Reading bodies and images back is in Operands. -/

namespace Sys2Proof.Machine

/-! ## Numbers (R196: least significant byte first) -/

def le8 (n : Nat) : List Byte := [BitVec.ofNat 8 n]
def le16 (n : Nat) : List Byte := [BitVec.ofNat 8 n, BitVec.ofNat 8 (n / 256)]
def le32 (n : Nat) : List Byte :=
  [BitVec.ofNat 8 n, BitVec.ofNat 8 (n / 256), BitVec.ofNat 8 (n / 65536), BitVec.ofNat 8 (n / 16777216)]
def leWord32 (w : Word32) : List Byte := le32 w.toNat
def leWord16 (w : Word16) : List Byte := le16 w.toNat

/-- A value or limit: signed 32-bit, two's complement. -/
def leInt (v : Int) : List Byte := leWord32 (BitVec.ofInt 32 v)

def boolByte (b : Bool) : Byte := if b then 1 else 0

/-- An absent field's value bytes are zero (R196). -/
def optInt (v : Option Int) : List Byte := leInt (v.getD 0)

/-- A number with the absent code 0xFF. -/
def optByteFF (v : Option Nat) : Byte := BitVec.ofNat 8 (v.getD 255)

/-- Eight flags, the first in bit 0. -/
def flagByte (f0 f1 f2 f3 f4 f5 f6 f7 : Bool) : Byte :=
  BitVec.ofNat 8 (f0.toNat + 2 * f1.toNat + 4 * f2.toNat + 8 * f3.toNat + 16 * f4.toNat + 32 * f5.toNat +
    64 * f6.toNat + 128 * f7.toNat)

/-! ## Enumerations and sets (11.2) -/

def Kind.code : Kind → Nat
  | .cellV => 0 | .cellT => 1 | .packI => 2 | .packV => 3 | .busV => 4 | .aggMax => 5 | .aggMin => 6 | .aggSpread => 7

def Guard.code : Guard → Nat
  | .changeable => 0 | .guarded => 1

def Condition.code : Condition → Nat
  | .idle => 0 | .normal => 1 | .warn => 2 | .tripped => 3 | .stale => 4

def tripCauseCode : Option TripCause → Nat
  | none => 0 | some .limitHigh => 1 | some .limitLow => 2 | some .stale => 3

def SpotOutcome.code : SpotOutcome → Nat
  | .ok => 0 | .failed => 1

def Block.code : Block → Nat
  | .cells => 0 | .temps => 1 | .status => 2

def failureCode : Option FailureKind → Nat
  | none => 0 | some .noReply => 1 | some .headerBad => 2 | some .mismatch => 3 | some .tagStale => 4
  | some .dataBad => 5

def MonitorState.code : MonitorState → Nat
  | .absent => 0 | .present => 1 | .missing => 2 | .faulted => 3

def DiscoveryCause.code : DiscoveryCause → Nat
  | .start => 0 | .wake => 1 | .request => 2

def SeqState.code : SeqState → Nat
  | .opened => 0 | .negClosing => 1 | .precharging => 2 | .posClosing => 3 | .closed => 4 | .deferring => 5
  | .opening => 6 | .lockout => 7

def Cause.code : Cause → Nat
  | .inhibit _ => 1 | .point _ => 2 | .requestedOpen => 3 | .requestedTrip => 4 | .crash => 5
  | .auxTimeoutNeg => 6 | .auxTimeoutPos => 7 | .prechargeFast => 8 | .prechargeTimeout => 9
  | .auxLostNeg => 10 | .auxLostPos => 11 | .auxStuckNeg => 12 | .auxStuckPos => 13

/-- The id that INHIBIT and POINT carry; zero otherwise. -/
def Cause.idField : Cause → Nat
  | .inhibit id => id
  | .point id => id
  | _ => 0

def lockoutCode : Option LockoutCause → Nat
  | none => 0 | some .crash => 5 | some .auxStuckNeg => 12 | some .auxStuckPos => 13 | some .weldNeg => 14
  | some .weldPos => 15

def TimerName.code : TimerName → Nat
  | .auxConfirm => 1 | .precharge => 2 | .defer => 3 | .dropout => 4

/-- A line level: the rest level is 0, the other level 1, UNKNOWN 0xFF. -/
def levelCode : Option Bool → Nat
  | none => 255 | some false => 0 | some true => 1

def PowerState.code : PowerState → Nat
  | .loading => 0 | .discovering => 1 | .active => 2 | .settling => 3 | .deepSleep => 4 | .sleepFrame => 5
  | .waking => 6

def ClockPhase.code : ClockPhase → Nat
  | .stopped => 0 | .slot _ _ => 1 | .tail => 2

def UpdateState.code : UpdateState → Nat
  | .idle => 0 | .staging => 1 | .verifying => 2 | .writing => 3 | .applying => 4

def Outcome.code : Outcome → Nat
  | .applied => 1 | .tagBad => 2 | .invalid => 3 | .writeFailed => 4 | .tampered => 5 | .abandoned => 6
  | .powerLost => 7

def InvalidReason.code : InvalidReason → Nat
  | .notStored => 1 | .referenced => 2 | .members => 3 | .source => 4 | .limits => 5 | .profileRef => 6
  | .slot => 7 | .sequencer => 8

def BankState.code : BankState → Nat
  | .empty => 0 | .valid => 1 | .interrupted => 2 | .damaged => 3

def Actions.toByte (a : Actions) : Byte := flagByte a.report a.inhibit a.opens a.wakes false false false false

def Causes.toByte (c : Causes) : Byte :=
  flagByte c.points c.contactor c.chain c.frame c.update c.power c.tamper c.store

def WakeCauses.toByte (c : WakeCauses) : Byte :=
  flagByte c.powerOn c.reset c.request c.line c.point c.chain c.tamper c.crash

def Findings.toByte (f : Findings) : Byte :=
  flagByte f.blank f.bankDamaged f.bankInterrupted f.countersReset f.keyReset false false false

/-! ## Point layouts (11.3) -/

def Limits.presence (l : Limits) : Byte :=
  flagByte l.lowTrip.isSome l.lowWarn.isSome l.highWarn.isSome l.highTrip.isSome false false false false

def Limits.bytes (l : Limits) : List Byte :=
  optInt l.lowTrip ++ optInt l.lowWarn ++ optInt l.highWarn ++ optInt l.highTrip

def Definition.encode (d : Definition) : List Byte :=
  le8 d.kind.code ++ le8 d.guard.code ++ [optByteFF d.monitor, optByteFF d.channel, optByteFF d.slot] ++
    le8 d.divider ++ [d.limits.presence] ++ d.limits.bytes ++ le16 d.hysteresis ++ le8 d.persistence ++
    [d.actions.toByte, boolByte d.staleTrips] ++ le8 (d.sleepDivider.getD 0) ++ le8 d.members.length ++
    d.members.flatMap le16

/-- The two bytes of named flags of a change block. -/
def Change.named (c : Change) : List Byte :=
  [flagByte c.slot.isSome c.divider.isSome c.lowTrip.isSome c.lowWarn.isSome c.highWarn.isSome c.highTrip.isSome
      c.hysteresis.isSome c.persistence.isSome,
    flagByte c.actions.isSome c.staleTrips.isSome c.sleepDivider.isSome false false false false false]

/-- The removed flags of a change block. -/
def Change.removed (c : Change) : Byte :=
  flagByte (c.lowTrip == some none) (c.lowWarn == some none) (c.highWarn == some none) (c.highTrip == some none)
    (c.sleepDivider == some none) false false false

def Change.encode (c : Change) : List Byte :=
  c.named ++ [c.removed] ++ le8 (c.slot.getD 0) ++ le8 (c.divider.getD 0) ++ optInt (c.lowTrip.getD none) ++
    optInt (c.lowWarn.getD none) ++ optInt (c.highWarn.getD none) ++ optInt (c.highTrip.getD none) ++
    le16 (c.hysteresis.getD 0) ++ le8 (c.persistence.getD 0) ++ [(c.actions.map Actions.toByte).getD 0] ++
    [boolByte (c.staleTrips.getD false)] ++ le8 ((c.sleepDivider.getD none).getD 0)

/-- The live part as LOOKUP sends it for a LIVE point. -/
def Live.encode (l : Live) : List Byte :=
  le8 l.condition.code ++
    (match l.sample with
      | some x => [1] ++ leInt x.value ++ leWord32 x.frame
      | none => [0] ++ List.replicate 8 0) ++
    le8 l.missed ++ le8 l.excursion ++ le8 (tripCauseCode l.tripCause) ++
    (match l.spot with
      | some x => [1, boolByte x.value.isSome] ++ optInt x.value ++ leWord32 x.frame ++ le8 x.outcome.code
      | none => List.replicate 11 0) ++
    [boolByte l.amended]

/-- The live part of an ENLISTING point: condition 0xFF and every presence byte 0. -/
def enlistingLiveBytes : List Byte := [0xFF] ++ List.replicate 24 0

def pendingBytes : Option PendingPart → List Byte
  | none => List.replicate 28 0
  | some (.fields c) => [1] ++ c.encode
  | some .retire => [2] ++ List.replicate 27 0

/-! ## Items, profile and frame parameters (11.4) -/

/-- The PROFILE layout without its kind byte. -/
def Profile.encode (p : Profile) : List Byte :=
  le16 p.packPoint ++ le16 p.busPoint ++ le16 p.currentPoint ++ le8 p.prechargeRatio ++ le16 p.prechargeTimeout ++
    le16 p.minPrecharge ++ le8 p.auxConfirm ++ le8 p.dropout ++ le16 p.breakLimit ++ le16 p.deferMax

/-- The FRAME layout without its kind byte. -/
def FrameParams.encode (f : FrameParams) : List Byte :=
  le8 f.frameLength ++ le8 f.slotCount ++ le16 f.sleepPeriod ++ le8 f.monitorCount

def Item.encode : Item → List Byte
  | .point id d => [1] ++ le16 id ++ d.encode
  | .remove id => [2] ++ le16 id
  | .group g =>
    [3] ++ le8 g.kind.code ++ le8 g.first ++ le8 g.last ++ [g.limits.presence] ++ g.limits.bytes ++
      le16 g.hysteresis ++ le8 g.persistence
  | .profile p => [4] ++ p.encode
  | .frame f => [5] ++ f.encode

def Item.kindCode : Item → Nat
  | .point _ _ => 1 | .remove _ => 2 | .group _ => 3 | .profile _ => 4 | .frame _ => 5

/-- The three target bytes of QSTORE. -/
def Item.targetBytes : Item → List Byte
  | .point id _ => le16 id ++ [0]
  | .remove id => le16 id ++ [0]
  | .group g => le8 g.kind.code ++ le8 g.first ++ le8 g.last
  | .profile _ => [0, 0, 0]
  | .frame _ => [0, 0, 0]

/-! ## Banks (11.7) -/

/-- Erased memory reads 0xFF. -/
def erasedByte : Byte := 0xFF

def beginMark : List Byte := [0xC3, 0x5A, 0x96, 0x0F]
def completeMark : List Byte := [0x3C, 0xA5, 0x69, 0xF0]
def versionAddress : Nat := 4
def crcAddress : Nat := 8
def completeAddress : Nat := 12
def imageAddress : Nat := 16
def entrySize : Nat := 63
def imageSize : Nat := 24215
def pageSize : Nat := 757
/-- The address of a point's entry in a bank. -/
def entryAddress (id : Nat) : Nat := imageAddress + entrySize * id

/-- A point entry: occupancy, then the definition zero-filled to 62 bytes. -/
def entryBytes : Option Definition → List Byte
  | none => List.replicate 63 0
  | some d => [1] ++ d.encode ++ List.replicate (62 - d.encode.length) 0

/-- A profile as QCONT reports it and as a bank stores it (R126, 11.7). R196 gives zeros for the absent value of a body
sent; the model stores the same zeros in a bank (log 25). -/
def profileBytes : Option Profile → List Byte
  | none => List.replicate 18 0
  | some p => [1] ++ p.encode

def Image.encode (i : Image) : List Byte :=
  i.points.toList.flatMap entryBytes ++ profileBytes i.profile ++ i.frame.encode

/-- 8.3: the BLANK image. -/
def Image.blank : Image := { points := Vector.replicate 384 none, profile := none, frame := .blank }

/-! ## Counter slots and key copies (R150, R151; the layouts are log 9) -/

/-- R198: an area with the CRC-16 of every byte before it. -/
def withCrc16 (b : List Byte) : List Byte := b ++ leWord16 (crc16 b)

/-- The bytes of an area of `n` bytes. -/
def areaOf (n : Nat) (b : List Byte) : Vector Byte n := Vector.ofFn (fun i => b.getD i.val 0)

/-- An erased area. -/
def erasedArea (n : Nat) : Vector Byte n := Vector.replicate n erasedByte

/-- R150: the sequence and the snapshot, the counts of the negative main first. -/
def slotFields (sequence : Word32) (x : CounterSnapshot) : List Byte :=
  leWord32 sequence ++ leWord32 x.closeNeg ++ leWord32 x.loadedNeg ++ leWord32 x.closePos ++ leWord32 x.loadedPos ++
    [boolByte x.lockoutFlag] ++ le8 (lockoutCode x.lockoutCause) ++ [boolByte x.tamperLatch] ++ leWord32 x.tamperCount

/-- R150, R198: a counter slot as it is written. -/
def CounterSlot.encode (sequence : Word32) (x : CounterSnapshot) : SlotBytes :=
  areaOf 29 (withCrc16 (slotFields sequence x))

/-- R151: generation, key state, key (zeros while EMPTY) and final lock. -/
def copyFields (generation : Word32) (r : KeyRecord) : List Byte :=
  leWord32 generation ++ [boolByte r.key.isSome] ++ ((r.key.map (·.toList)).getD (List.replicate 32 0)) ++
    [boolByte r.finalLock]

/-- R151, R198: a key copy as it is written. -/
def KeyCopy.encode (generation : Word32) (r : KeyRecord) : CopyBytes :=
  areaOf 40 (withCrc16 (copyFields generation r))

/-! ## Requests and answers (11.1) -/

inductive AnswerCode where
  | done | accepted | frameError | unknownRequest | badArgument | noPoint | exists_ | guarded | inUse | staged
  | waiting | latched | notClear | slotRange | queueFull | state | inhibited | noProfile | busy | wakeHeld | noKey
  | locked | rollback | stageFull | noStage | tagBad | tampered | starting
  deriving DecidableEq, Repr

/-- The values of the answer codes; `waiting` is the answer PENDING. -/
def AnswerCode.toByte : AnswerCode → Byte
  | .done => 0x00 | .accepted => 0x01 | .frameError => 0x80 | .unknownRequest => 0x81 | .badArgument => 0x82
  | .noPoint => 0x83 | .exists_ => 0x84 | .guarded => 0x85 | .inUse => 0x86 | .staged => 0x87 | .waiting => 0x88
  | .latched => 0x89 | .notClear => 0x8A | .slotRange => 0x8B | .queueFull => 0x8C | .state => 0x8D
  | .inhibited => 0x8E | .noProfile => 0x8F | .busy => 0x90 | .wakeHeld => 0x91 | .noKey => 0x92 | .locked => 0x93
  | .rollback => 0x94 | .stageFull => 0x95 | .noStage => 0x96 | .tagBad => 0x97 | .tampered => 0x98
  | .starting => 0x99

/-- R188: an answer frame, its CRC-16 over the four fields before it. -/
def answerFrame (code : Byte) (answer : AnswerCode) (body : List Byte) : List Byte :=
  let head := [code, answer.toByte] ++ le8 body.length ++ body
  head ++ leWord16 (crc16 head)

/-- 11.1: a request frame, its CRC-16 over code, length and body. -/
def requestFrame (code : Byte) (body : List Byte) : List Byte :=
  let head := [code] ++ le8 body.length ++ body
  head ++ leWord16 (crc16 head)

/-- R189: the markers of a read transaction. -/
def notReadyMarker : List Byte := [0xEE, 0xEE]
def asleepMarker : List Byte := [0xDD, 0xDD]

def codeEnlist : Byte := 0x10
def codeLookup : Byte := 0x11
def codeAmend : Byte := 0x12
def codeAmendg : Byte := 0x13
def codeRetire : Byte := 0x14
def codeRelease : Byte := 0x18
def codeChanges : Byte := 0x19
def codeQinhib : Byte := 0x1A
def codeSetfrm : Byte := 0x20
def codeQfrm : Byte := 0x21
def codeSpot : Byte := 0x22
def codeDiscov : Byte := 0x23
def codeMstat : Byte := 0x28
def codeQchain : Byte := 0x29
def codeClose : Byte := 0x30
def codeOpen : Byte := 0x31
def codeTrip : Byte := 0x32
def codeClrlock : Byte := 0x33
def codeQcont : Byte := 0x34
def codeSleep : Byte := 0x40
def codeWake : Byte := 0x41
def codeQpower : Byte := 0x42
def codeReset : Byte := 0x4F
def codeUopen : Byte := 0x50
def codeUstage : Byte := 0x51
def codeUcommit : Byte := 0x52
def codeUabandon : Byte := 0x53
def codeQstore : Byte := 0x54
def codeKeyinst : Byte := 0x58
def codeFinlock : Byte := 0x59
def codeClrtamp : Byte := 0x5A
def codeStatus : Byte := 0x60
def codeMask : Byte := 0x61
def codeIdent : Byte := 0x62

/-- 11.1: the request codes, in the order of the table. -/
def requestCodes : List Byte :=
  [codeEnlist, codeLookup, codeAmend, codeAmendg, codeRetire, codeRelease, codeChanges, codeQinhib] ++
  [codeSetfrm, codeQfrm, codeSpot, codeDiscov, codeMstat, codeQchain] ++
  [codeClose, codeOpen, codeTrip, codeClrlock, codeQcont, codeSleep, codeWake, codeQpower, codeReset] ++
  [codeUopen, codeUstage, codeUcommit, codeUabandon, codeQstore, codeKeyinst, codeFinlock, codeClrtamp] ++
  [codeStatus, codeMask, codeIdent]

/-- R186: what the frame checks find in the bytes of a write transaction. -/
inductive FrameCheck where
  | bad
  | good (code : Byte) (body : List Byte)
  deriving DecidableEq, Repr

/-- R186, orders 1 and 2: the length test, then the CRC-16. -/
def checkFrame : List Byte → FrameCheck
  | code :: len :: rest =>
    if 250 < len.toNat || rest.length != len.toNat + 2 then .bad
    else
      let body := rest.take len.toNat
      if rest.drop len.toNat = leWord16 (crc16 ([code, len] ++ body)) then .good code body else .bad
  | _ => .bad

/-! ## Down messages (11.6), each with the CRC-8 of the bytes before it -/

def withCrc8 (m : List Byte) : List Byte := m ++ [crc8 m]
def enumMessage : List Byte := withCrc8 [0x01, 0]
def wakeAllMessage : List Byte := withCrc8 [0x02]
def sleepAllMessage : List Byte := withCrc8 [0x03]
def convertMessage (tag : Byte) : List Byte := withCrc8 [0x04, tag]
def readMessage (address : Nat) (block : Block) (clear : Bool) : List Byte :=
  withCrc8 ([0x05] ++ le8 address ++ le8 block.code ++ [boolByte clear])

end Sys2Proof.Machine
end

