-- ==== Sys2Proof/WellFormed.lean ====
section
/-! DEFINITION. Which commands can be: a body of at most 250 bytes, a frame that really fails its checks, a code that
really names no request, a reading of its converter, a transaction of at least one byte. -/

namespace Sys2Proof

/-- 11.1: the code and body of a request; none for every other command. -/
def Instr.request? : Instr → Option (Byte × List Byte)
  | .enlist body => some (Machine.codeEnlist, body)
  | .lookup body => some (Machine.codeLookup, body)
  | .amend body => some (Machine.codeAmend, body)
  | .amendg body => some (Machine.codeAmendg, body)
  | .retire body => some (Machine.codeRetire, body)
  | .release body => some (Machine.codeRelease, body)
  | .changes body => some (Machine.codeChanges, body)
  | .qinhib body => some (Machine.codeQinhib, body)
  | .setfrm body => some (Machine.codeSetfrm, body)
  | .qfrm body => some (Machine.codeQfrm, body)
  | .spot body => some (Machine.codeSpot, body)
  | .discov body => some (Machine.codeDiscov, body)
  | .mstat body => some (Machine.codeMstat, body)
  | .qchain body => some (Machine.codeQchain, body)
  | .close body => some (Machine.codeClose, body)
  | .openRequest body => some (Machine.codeOpen, body)
  | .trip body => some (Machine.codeTrip, body)
  | .clrlock body => some (Machine.codeClrlock, body)
  | .qcont body => some (Machine.codeQcont, body)
  | .sleep body => some (Machine.codeSleep, body)
  | .wake body => some (Machine.codeWake, body)
  | .qpower body => some (Machine.codeQpower, body)
  | .reset body => some (Machine.codeReset, body)
  | .uopen body => some (Machine.codeUopen, body)
  | .ustage body => some (Machine.codeUstage, body)
  | .ucommit body => some (Machine.codeUcommit, body)
  | .uabandon body => some (Machine.codeUabandon, body)
  | .qstore body => some (Machine.codeQstore, body)
  | .keyinst body => some (Machine.codeKeyinst, body)
  | .finlock body => some (Machine.codeFinlock, body)
  | .clrtamp body => some (Machine.codeClrtamp, body)
  | .status body => some (Machine.codeStatus, body)
  | .mask body => some (Machine.codeMask, body)
  | .ident body => some (Machine.codeIdent, body)
  | .powerOn => none
  | .powerLoss => none
  | .storeLoadEnd => none
  | .writeTransactionBegin => none
  | .readTransaction _ => none
  | .frameError _ => none
  | .unknownRequest _ _ => none
  | .frameStart => none
  | .slotStart => none
  | .captureDelivery _ _ => none
  | .blockReply _ => none
  | .readWaitExpiry => none
  | .enumDelayExpiry => none
  | .enumReply _ => none
  | .enumSilenceExpiry => none
  | .sleepTimerExpiry => none
  | .lineSample _ => none
  | .inhibitNotice => none
  | .tripNotice => none
  | .referenceSample => none
  | .auxConfirmExpiry => none
  | .prechargeTimeoutExpiry => none
  | .deferMaxExpiry => none
  | .dropoutExpiry => none
  | .counterWriteEnd _ => none
  | .bankWriteUnitEnd _ => none
  | .keyWriteEnd _ => none
  | .verifyComplete => none

/-- 5.1: a reading lies in its converter's range. -/
def Converter.delivers (c : Converter) (reading : Int) : Bool :=
  match c with
  | .shuntCurrent => decide (-20480 ≤ reading) && decide (reading ≤ 20479)
  | .packVoltage => decide (-512 ≤ reading) && decide (reading ≤ 12287)
  | .busVoltage => decide (-512 ≤ reading) && decide (reading ≤ 12287)

/-- R186: a write transaction whose frame fails the length or CRC check. -/
def badTransaction (frame : List Byte) : Bool :=
  match frame with
  | [] => false
  | code :: _ => code != 0 && Machine.checkFrame frame == .bad

/-- A command that can arrive. -/
def Instr.wellFormed (i : Instr) : Bool :=
  match i.request? with
  | some (_, body) => decide (body.length ≤ 250)
  | none =>
    match i with
    | .readTransaction clocked => decide (1 ≤ clocked)
    | .frameError frame => badTransaction frame
    | .unknownRequest code body =>
      code != 0 && !Machine.requestCodes.contains code && decide (body.length ≤ 250)
    | .captureDelivery converter reading => converter.delivers reading
    | .blockReply message => !message.isEmpty
    | .enumReply message => !message.isEmpty
    | _ => true

end Sys2Proof
end

