-- ==== Sys2Proof/Decode.lean ====
section
/-! DEFINITION. The commands that bytes spell. The table of operations gives no row any bits, so no table word spells a
command; the bytes of a whole transaction on the host port do (R185, R186, 11.1), and `Instr.encode` writes them. -/

namespace Sys2Proof

/-- The table gives no row any bits. -/
def decodeTableWord (_nbits _w : Nat) : Option Instr := none

/-- 11.1: the request a code names, or UNKNOWN_REQUEST (R186, order 3). -/
def requestOf (code : Byte) (body : List Byte) : Instr :=
  match code.toNat with
  | 0x10 => .enlist body
  | 0x11 => .lookup body
  | 0x12 => .amend body
  | 0x13 => .amendg body
  | 0x14 => .retire body
  | 0x18 => .release body
  | 0x19 => .changes body
  | 0x1A => .qinhib body
  | 0x20 => .setfrm body
  | 0x21 => .qfrm body
  | 0x22 => .spot body
  | 0x23 => .discov body
  | 0x28 => .mstat body
  | 0x29 => .qchain body
  | 0x30 => .close body
  | 0x31 => .openRequest body
  | 0x32 => .trip body
  | 0x33 => .clrlock body
  | 0x34 => .qcont body
  | 0x40 => .sleep body
  | 0x41 => .wake body
  | 0x42 => .qpower body
  | 0x4F => .reset body
  | 0x50 => .uopen body
  | 0x51 => .ustage body
  | 0x52 => .ucommit body
  | 0x53 => .uabandon body
  | 0x54 => .qstore body
  | 0x58 => .keyinst body
  | 0x59 => .finlock body
  | 0x5A => .clrtamp body
  | 0x60 => .status body
  | 0x61 => .mask body
  | 0x62 => .ident body
  | _ => .unknownRequest code body

/-- R185, R186: the command that the whole bytes of one transaction spell; a transaction with no whole byte has no
effect. -/
def decodeTransaction (bytes : List Byte) : Option Instr :=
  match bytes with
  | [] => none
  | first :: _ =>
    if first = 0 then some (.readTransaction bytes.length)
    else
      match Machine.checkFrame bytes with
      | .bad => some (.frameError bytes)
      | .good code body => some (requestOf code body)

/-- R185, 11.1: the bytes of the transaction that a command of the port stands for. -/
def Instr.encode (i : Instr) : Option (List Byte) :=
  match i.request? with
  | some (code, body) => some (Machine.requestFrame code body)
  | none =>
    match i with
    | .readTransaction clocked => some (List.replicate clocked 0)
    | .frameError frame => some frame
    | .unknownRequest code body => some (Machine.requestFrame code body)
    | _ => none

end Sys2Proof
end

