-- ==== Sys2Proof/Config.lean ====
section
/-! DEFINITION. What the manual leaves to the single part, and the free values: constants without a body, so that no
proof can see which value they have. -/

namespace Sys2Proof.Config

/-- R194: the device number, a 64-bit number fixed in the part at manufacture and different for every part (log 13). -/
opaque deviceNumber : BitVec 64

/-- The free choices of R161 and R157, numbered by `State.freeIndex`: what a power loss leaves in a bank being retracted,
and which of two INTERRUPTED banks hands its version over (log 11, log 33). -/
opaque freeChoice : Nat → Bool

/-- The free bytes of R161: what a power loss leaves, byte by byte, in a counter slot or key copy being written, numbered
by `State.freeIndex` and the place in the area (log 11). -/
opaque freeByte : Nat → Nat → Byte

end Sys2Proof.Config
end

