-- ==== Sys2Proof/Machine/Flags.lean ====
section
/-! DEFINITION. The flag computations: the attention set and mask (R190, R191), the wake set (R134, R142) and the levels
the part drives from its state (R103, R127, R191). -/

namespace Sys2Proof.Machine

/-- The eight attention causes of 10.3. -/
inductive CauseName where
  | points | contactor | chain | frame | update | power | tamper | store
  deriving DecidableEq, Repr

/-- A set of causes with one cause put in or taken out. -/
def Causes.put (c : CauseName) (v : Bool) (x : Causes) : Causes :=
  match c with
  | .points => { x with points := v }
  | .contactor => { x with contactor := v }
  | .chain => { x with chain := v }
  | .frame => { x with frame := v }
  | .update => { x with update := v }
  | .power => { x with power := v }
  | .tamper => { x with tamper := v }
  | .store => { x with store := v }

/-- Two sets of causes have a cause in common. -/
def Causes.meets (x y : Causes) : Bool :=
  (x.points && y.points) || (x.contactor && y.contactor) || (x.chain && y.chain) || (x.frame && y.frame) ||
    (x.update && y.update) || (x.power && y.power) || (x.tamper && y.tamper) || (x.store && y.store)

/-- R190: a block raises a cause; one already in the set stays as it is. -/
def State.raise (c : CauseName) (s : State) : State :=
  { s with attention := { s.attention with set := s.attention.set.put c true } }

/-- R190: a cause leaves the set. -/
def State.clear (c : CauseName) (s : State) : State :=
  { s with attention := { s.attention with set := s.attention.set.put c false } }

/-- R160: a cause raised only as required. -/
def State.raiseIf (b : Bool) (c : CauseName) (s : State) : State := if b then s.raise c else s

/-- The causes a gathering Power Manager adds (R134, R138, R142, R145). -/
inductive WakeName where
  | request | line | point | chain | tamper | crash
  deriving DecidableEq, Repr

def WakeCauses.add (c : WakeName) (x : WakeCauses) : WakeCauses :=
  match c with
  | .request => { x with request := true }
  | .line => { x with line := true }
  | .point => { x with point := true }
  | .chain => { x with chain := true }
  | .tamper => { x with tamper := true }
  | .crash => { x with crash := true }

def WakeCauses.isEmpty (x : WakeCauses) : Bool :=
  !(x.powerOn || x.reset || x.request || x.line || x.point || x.chain || x.tamper || x.crash)

/-- A cause already in the wake set stays as it is (R134). -/
def State.addWake (c : WakeName) (s : State) : State :=
  { s with power := { s.power with wakeSet := s.power.wakeSet.add c } }

/-- R127: HEN is asserted in every power state except DEEP_SLEEP and SLEEP_FRAME. -/
def PowerState.hen : PowerState → Bool
  | .deepSleep => false
  | .sleepFrame => false
  | .loading => true
  | .discovering => true
  | .active => true
  | .settling => true
  | .waking => true

/-- R103, table of 6.2: the states in which DRV_NEG is on. -/
def SeqState.drvNeg : SeqState → Bool
  | .negClosing => true
  | .precharging => true
  | .posClosing => true
  | .closed => true
  | .deferring => true
  | .opened => false
  | .opening => false
  | .lockout => false

/-- R103, table of 6.2: the states in which DRV_PRE is on. -/
def SeqState.drvPre : SeqState → Bool
  | .precharging => true
  | .posClosing => true
  | .opened => false
  | .negClosing => false
  | .closed => false
  | .deferring => false
  | .opening => false
  | .lockout => false

/-- R103, table of 6.2: the states in which DRV_POS is on. -/
def SeqState.drvPos : SeqState → Bool
  | .posClosing => true
  | .closed => true
  | .deferring => true
  | .opened => false
  | .negClosing => false
  | .precharging => false
  | .opening => false
  | .lockout => false

/-- The levels of a part without supply: nothing is driven (log 8). -/
def Pins.off : Pins := { attn := false, hen := false, drvNeg := false, drvPre := false, drvPos := false }

/-- The levels the state asks for: HEN from the power state (R127), ATTN from HEN, the attention set and the mask
(R191), the coil drivers from the sequencer state (R103). -/
def State.levels (s : State) : Pins :=
  if s.vsup then
    { attn := s.power.state.hen && s.attention.set.meets s.attention.mask
      hen := s.power.state.hen
      drvNeg := s.seq.state.drvNeg
      drvPre := s.seq.state.drvPre
      drvPos := s.seq.state.drvPos }
  else Pins.off

/-- Every step leaves the pins at the levels of the state it ends in (log 28). -/
def State.drive (s : State) : State := { s with pins := s.levels }

end Sys2Proof.Machine
end

