-- ==== Sys2Proof/Machine/Operands.lean ====
section
/-! DEFINITION. Reading operands: bodies, items and stored records back from their bytes (R196), the body lengths the
layouts fix (R187, R196), and the tests a definition, a change, an item or a parameter record can answer by itself
(R2 to R9, 3.1, 6.1). -/

namespace Sys2Proof.Machine

/-! ## Numbers -/

def u8 (b : List Byte) (i : Nat) : Nat := (b.getD i 0).toNat
def u16 (b : List Byte) (i : Nat) : Nat := u8 b i + 256 * u8 b (i + 1)
def u32 (b : List Byte) (i : Nat) : Nat :=
  u8 b i + 256 * u8 b (i + 1) + 65536 * u8 b (i + 2) + 16777216 * u8 b (i + 3)
def word32 (b : List Byte) (i : Nat) : Word32 := BitVec.ofNat 32 (u32 b i)
def i32 (b : List Byte) (i : Nat) : Int := (word32 b i).toInt

/-! ## Enumerations: a byte holding no code of its enumeration is refused (R196) -/

def Kind.ofCode : Nat → Option Kind
  | 0 => some .cellV | 1 => some .cellT | 2 => some .packI | 3 => some .packV | 4 => some .busV
  | 5 => some .aggMax | 6 => some .aggMin | 7 => some .aggSpread | _ => none

def Guard.ofCode : Nat → Option Guard
  | 0 => some .changeable | 1 => some .guarded | _ => none

def Block.ofCode : Nat → Option Block
  | 0 => some .cells | 1 => some .temps | 2 => some .status | _ => none

def boolOf : Nat → Option Bool
  | 0 => some false | 1 => some true | _ => none

/-- A flag in a position that names nothing is refused. -/
def Actions.ofCode (n : Nat) : Option Actions :=
  if n < 16 then
    some { report := n.testBit 0, inhibit := n.testBit 1, opens := n.testBit 2, wakes := n.testBit 3 }
  else none

def Causes.ofByte (b : Byte) : Causes :=
  { points := b.getLsbD 0, contactor := b.getLsbD 1, chain := b.getLsbD 2, frame := b.getLsbD 3,
    update := b.getLsbD 4, power := b.getLsbD 5, tamper := b.getLsbD 6, store := b.getLsbD 7 }

/-! ## Fields -/

/-- A field carried only when named; unnamed value bytes are zero. -/
def namedField (named : Bool) (v : Nat) : Option (Option Nat) :=
  if named then some (some v) else if v = 0 then some none else none

/-- A limit carried when its presence flag is set; absent value bytes are zero. -/
def presentLimit (present : Bool) (b : List Byte) (i : Nat) : Option (Option Int) :=
  if present then some (some (i32 b i)) else if u32 b i = 0 then some none else none

/-- A limit of a change block: named with a value, named as a removal, or not named. -/
def changedLimit (named removed : Bool) (b : List Byte) (i : Nat) : Option (Option (Option Int)) :=
  match named, removed with
  | true, false => some (some (some (i32 b i)))
  | true, true => if u32 b i = 0 then some (some none) else none
  | false, false => if u32 b i = 0 then some none else none
  | false, true => none

/-- A byte with the absent code 0xFF. -/
def absentFF (n : Nat) : Option Nat := if n = 255 then none else some n

def decodeLimits (presence : Nat) (b : List Byte) (i : Nat) : Option Limits :=
  if presence < 16 then do
    let lowTrip ← presentLimit (presence.testBit 0) b i
    let lowWarn ← presentLimit (presence.testBit 1) b (i + 4)
    let highWarn ← presentLimit (presence.testBit 2) b (i + 8)
    let highTrip ← presentLimit (presence.testBit 3) b (i + 12)
    some { lowTrip, lowWarn, highWarn, highTrip }
  else none

/-- `n` ids of two bytes each from offset `i`. -/
def idList (b : List Byte) (i : Nat) : Nat → List Nat
  | 0 => []
  | n + 1 => u16 b i :: idList b (i + 2) n

/-- 11.3: the definition layout, read from offset 0; the tests of R196. -/
def Definition.decode (b : List Byte) : Option Definition :=
  if b.length = 30 + 2 * u8 b 29 then do
    let kind ← Kind.ofCode (u8 b 0)
    let guard ← Guard.ofCode (u8 b 1)
    let limits ← decodeLimits (u8 b 6) b 7
    let actions ← Actions.ofCode (u8 b 26)
    let staleTrips ← boolOf (u8 b 27)
    some
      { kind, guard, limits, actions, staleTrips
        monitor := absentFF (u8 b 2)
        channel := absentFF (u8 b 3)
        slot := absentFF (u8 b 4)
        divider := u8 b 5
        hysteresis := u16 b 23
        persistence := u8 b 25
        sleepDivider := if u8 b 28 = 0 then none else some (u8 b 28)
        members := idList b 30 (u8 b 29) }
  else none

/-- 11.3: the change block layout, 27 bytes; the tests of R196. -/
def Change.decode (b : List Byte) : Option Change :=
  let named := u16 b 0
  let removed := u8 b 2
  if b.length = 27 ∧ named < 2048 ∧ removed < 32 then do
    let slot ← namedField (named.testBit 0) (u8 b 3)
    let divider ← namedField (named.testBit 1) (u8 b 4)
    let lowTrip ← changedLimit (named.testBit 2) (removed.testBit 0) b 5
    let lowWarn ← changedLimit (named.testBit 3) (removed.testBit 1) b 9
    let highWarn ← changedLimit (named.testBit 4) (removed.testBit 2) b 13
    let highTrip ← changedLimit (named.testBit 5) (removed.testBit 3) b 17
    let hysteresis ← namedField (named.testBit 6) (u16 b 21)
    let persistence ← namedField (named.testBit 7) (u8 b 23)
    let actionByte ← namedField (named.testBit 8) (u8 b 24)
    let actions ← match actionByte with
      | none => some none
      | some n => (Actions.ofCode n).map some
    let staleByte ← namedField (named.testBit 9) (u8 b 25)
    let staleTrips ← match staleByte with
      | none => some none
      | some n => (boolOf n).map some
    let sleepDivider ← match named.testBit 10, removed.testBit 4 with
      | true, false => some (some (some (u8 b 26)))
      | true, true => if u8 b 26 = 0 then some (some none) else none
      | false, false => if u8 b 26 = 0 then some none else none
      | false, true => none
    some { slot, divider, lowTrip, lowWarn, highWarn, highTrip, hysteresis, persistence, actions, staleTrips,
           sleepDivider }
  else none

/-- 11.4: the PROFILE layout without its kind byte, from offset `i`. -/
def Profile.decode (b : List Byte) (i : Nat) : Profile :=
  { packPoint := u16 b i, busPoint := u16 b (i + 2), currentPoint := u16 b (i + 4), prechargeRatio := u8 b (i + 6),
    prechargeTimeout := u16 b (i + 7), minPrecharge := u16 b (i + 9), auxConfirm := u8 b (i + 11),
    dropout := u8 b (i + 12), breakLimit := u16 b (i + 13), deferMax := u16 b (i + 15) }

/-- 11.4: the FRAME layout without its kind byte, from offset `i`. -/
def FrameParams.decode (b : List Byte) (i : Nat) : FrameParams :=
  { frameLength := u8 b i, slotCount := u8 b (i + 1), sleepPeriod := u16 b (i + 2), monitorCount := u8 b (i + 4) }

/-- 11.4: an item with its kind byte; none when the kind is unknown or the layout breaks R196. -/
def Item.decode (b : List Byte) : Option Item :=
  match u8 b 0 with
  | 1 => (Definition.decode (b.drop 3)).map (Item.point (u16 b 1))
  | 2 => if b.length = 3 then some (.remove (u16 b 1)) else none
  | 3 =>
    if b.length = 24 then do
      let kind ← Kind.ofCode (u8 b 1)
      let limits ← decodeLimits (u8 b 4) b 5
      some (.group { kind, first := u8 b 2, last := u8 b 3, limits, hysteresis := u16 b 21, persistence := u8 b 23 })
    else none
  | 4 => if b.length = 18 then some (.profile (Profile.decode b 1)) else none
  | 5 => if b.length = 6 then some (.frame (FrameParams.decode b 1)) else none
  | _ => none

/-- A stored point entry (11.7): occupancy, then the definition. An entry that is not one of the two forms reads as
VACANT (log 25). -/
def decodeEntry (b : List Byte) : Option Definition :=
  if u8 b 0 = 1 then Definition.decode ((b.drop 1).take (30 + 2 * u8 b 30)) else none

/-- The stored profile (11.7): presence, then the PROFILE layout. A presence byte that is neither 0 nor 1 reads as absent
(log 25). -/
def decodeStoredProfile (b : List Byte) : Option Profile :=
  if u8 b 0 = 1 then some (Profile.decode b 1) else none

/-! ## Counter slots and key copies (R150, R151, R198; log 9) -/

/-- R198: the last two bytes of an area are the CRC-16 of every byte before them. -/
def crcHolds (b : List Byte) : Bool := b.drop (b.length - 2) == leWord16 (crc16 (b.take (b.length - 2)))

def LockoutCause.ofCode : Nat → Option LockoutCause
  | 5 => some .crash | 12 => some .auxStuckNeg | 13 => some .auxStuckPos | 14 => some .weldNeg | 15 => some .weldPos
  | _ => none

/-- R150: a counter slot is valid when its CRC-16 matches. -/
def CounterSlot.decode (area : SlotBytes) : CounterSlot :=
  let b := area.toList
  if crcHolds b then
    .valid (word32 b 0)
      { closeNeg := word32 b 4, loadedNeg := word32 b 8, closePos := word32 b 12, loadedPos := word32 b 16
        lockoutFlag := u8 b 20 == 1
        lockoutCause := LockoutCause.ofCode (u8 b 21)
        tamperLatch := u8 b 22 == 1
        tamperCount := word32 b 23 }
  else .invalid

/-- R151: a key copy is VALID when its CRC-16 matches, ERASED when every byte holds the erased pattern, BAD otherwise. In
a VALID copy a key-state byte other than INSTALLED reads as EMPTY, 0 and every other value alike (log 25). -/
def KeyCopy.decode (area : CopyBytes) : KeyCopy :=
  let b := area.toList
  if crcHolds b then
    .valid (word32 b 0)
      { key := if u8 b 4 = 1 then some (areaOf 32 ((b.drop 5).take 32)) else none
        finalLock := u8 b 37 == 1 }
  else if b.all (· == erasedByte) then .erased
  else .bad

/-! ## Body lengths (R187, R196) -/

/-- ENLIST: the length follows from the member count byte; a body that ends before it fits no length. -/
def enlistLengthOk (b : List Byte) : Bool := 32 ≤ b.length && b.length == 32 + 2 * u8 b 31

/-- USTAGE: each item kind has its length; a kind byte that names no item kind, or none at all, passes the port. -/
def ustageLengthOk (b : List Byte) : Bool :=
  match b with
  | [] => true
  | _ :: _ =>
    match u8 b 0 with
    | 1 => 33 ≤ b.length && b.length == 33 + 2 * u8 b 32
    | 2 => b.length == 3
    | 3 => b.length == 24
    | 4 => b.length == 18
    | 5 => b.length == 6
    | _ => true

/-! ## What a definition answers by itself (R2 to R9) -/

def Kind.isCell : Kind → Bool
  | .cellV => true
  | .cellT => true
  | _ => false

def Kind.isAggregate : Kind → Bool
  | .aggMax => true
  | .aggMin => true
  | .aggSpread => true
  | _ => false

/-- The range of values of a kind with its own source (the table of units). -/
def Kind.range : Kind → Int × Int
  | .cellV => (0, 50000)
  | .cellT => (-400, 1500)
  | .packI => (-20000, 20000)
  | .packV => (0, 12000)
  | .busV => (0, 12000)
  | .aggMax => (0, 0)
  | .aggMin => (0, 0)
  | .aggSpread => (0, 0)

/-- R3: the range of limits of a point, for an aggregate from the kind of its members. -/
def limitRange (k : Kind) (memberKind : Kind) : Int × Int :=
  match k with
  | .aggMax => memberKind.range
  | .aggMin => memberKind.range
  | .aggSpread => (0, memberKind.range.2 - memberKind.range.1)
  | .cellV => Kind.range .cellV
  | .cellT => Kind.range .cellT
  | .packI => Kind.range .packI
  | .packV => Kind.range .packV
  | .busV => Kind.range .busV

def inRange (r : Int × Int) (v : Int) : Bool := decide (r.1 ≤ v) && decide (v ≤ r.2)

/-- The limits present, in the order low_trip, low_warn, high_warn, high_trip. -/
def Limits.present (l : Limits) : List Int := [l.lowTrip, l.lowWarn, l.highWarn, l.highTrip].filterMap id

def strictlyAscending : List Int → Bool
  | [] => true
  | [_] => true
  | x :: y :: rest => decide (x < y) && strictlyAscending (y :: rest)

/-- R6: the limits present are strictly ascending. -/
def Limits.ascending (l : Limits) : Bool := strictlyAscending l.present

/-- R3: every limit present lies in the range. -/
def Limits.within (l : Limits) (r : Int × Int) : Bool := l.present.all (inRange r)

/-- R7: OPEN needs a trip limit or stale_trips. -/
def Definition.canOpen (d : Definition) : Bool :=
  !d.actions.opens || d.limits.lowTrip.isSome || d.limits.highTrip.isSome || d.staleTrips

/-- R7: WAKE needs a sleep part. -/
def Definition.canWake (d : Definition) : Bool := !d.actions.wakes || d.sleepDivider.isSome

/-- R2: the source fields are those of the kind. -/
def Definition.sourceOk (d : Definition) : Bool :=
  match d.kind with
  | .cellV => d.monitor.any (· ≤ 15) && d.channel.any (· ≤ 15) && d.members.isEmpty
  | .cellT => d.monitor.any (· ≤ 15) && d.channel.any (· ≤ 3) && d.members.isEmpty
  | .packI => d.monitor.isNone && d.channel.isNone && d.members.isEmpty
  | .packV => d.monitor.isNone && d.channel.isNone && d.members.isEmpty
  | .busV => d.monitor.isNone && d.channel.isNone && d.members.isEmpty
  | .aggMax => d.monitor.isNone && d.channel.isNone
  | .aggMin => d.monitor.isNone && d.channel.isNone
  | .aggSpread => d.monitor.isNone && d.channel.isNone

def noRepeats : List Nat → Bool
  | [] => true
  | x :: rest => !rest.contains x && noRepeats rest

/-- R4: length, repeats and range of a member list. -/
def membersShapeOk (d : Definition) : Bool :=
  !d.kind.isAggregate ||
    (decide (2 ≤ d.members.length) && decide (d.members.length ≤ 16) && noRepeats d.members &&
      d.members.all (fun m => decide (m ≤ 383)))

/-- R5: an aggregate carries no slot, every other point one from 0 to 31. -/
def Definition.slotShapeOk (d : Definition) : Bool :=
  if d.kind.isAggregate then d.slot.isNone else d.slot.any (· ≤ 31)

/-- The fields with a range of their own: divider, persistence, sleep_divider, hysteresis (R5, R6, R8, R3). -/
def Definition.rangesOk (d : Definition) : Bool :=
  decide (1 ≤ d.divider) && decide (d.divider ≤ 64) && decide (1 ≤ d.persistence) && decide (d.persistence ≤ 15) &&
    decide (d.hysteresis ≤ 65535) && d.sleepDivider.all (fun n => decide (1 ≤ n) && decide (n ≤ 16))

/-- The tests of R2 to R9 that need no other record and no range of limits. -/
def Definition.shapeOk (d : Definition) : Bool :=
  d.sourceOk && membersShapeOk d && d.slotShapeOk && d.rangesOk && d.limits.ascending && d.canOpen && d.canWake

/-- R167: the limits of a POINT item: those of its kind, or for an aggregate of some kind its members may have (log 23). -/
def Definition.stagedLimitsOk (d : Definition) : Bool :=
  d.limits.within (limitRange d.kind .cellV) || d.limits.within (limitRange d.kind .cellT)

/-! ## Parameters, profiles and items (3.1, 6.1, R167) -/

def between (lo hi n : Nat) : Bool := decide (lo ≤ n) && decide (n ≤ hi)

/-- 3.1: the ranges of the three parameters of SETFRM. -/
def PendingParams.rangesOk (p : PendingParams) : Bool :=
  between 5 250 p.frameLength && between 4 32 p.slotCount && between 1 3600 p.sleepPeriod

def FrameParams.rangesOk (f : FrameParams) : Bool :=
  between 5 250 f.frameLength && between 4 32 f.slotCount && between 1 3600 f.sleepPeriod &&
    decide (f.monitorCount ≤ 16)

/-- 6.1: the ranges of the profile. -/
def Profile.rangesOk (p : Profile) : Bool :=
  decide (p.packPoint ≤ 383) && decide (p.busPoint ≤ 383) && decide (p.currentPoint ≤ 383) &&
    between 80 99 p.prechargeRatio && between 100 10000 p.prechargeTimeout && decide (p.minPrecharge ≤ 1000) &&
    between 10 250 p.auxConfirm && between 10 250 p.dropout && decide (p.breakLimit ≤ 20000) &&
    decide (p.deferMax ≤ 2000)

def GroupItem.rangesOk (g : GroupItem) : Bool :=
  g.kind.isCell && decide (g.first ≤ 15) && decide (g.last ≤ 15) && decide (g.first ≤ g.last) &&
    decide (g.hysteresis ≤ 65535) && between 1 15 g.persistence && g.limits.within g.kind.range

/-- R167: an item that is not malformed. -/
def Item.wellFormed : Item → Bool
  | .point id d => decide (id ≤ 383) && d.shapeOk && d.stagedLimitsOk
  | .remove id => decide (id ≤ 383)
  | .group g => g.rangesOk
  | .profile p => p.rangesOk
  | .frame f => f.rangesOk

/-! ## Changes (R12, R20, R21) -/

/-- R12: the later change named over the earlier, field by field. -/
def Change.merge (earlier later : Change) : Change :=
  { slot := later.slot.or earlier.slot
    divider := later.divider.or earlier.divider
    lowTrip := later.lowTrip.or earlier.lowTrip
    lowWarn := later.lowWarn.or earlier.lowWarn
    highWarn := later.highWarn.or earlier.highWarn
    highTrip := later.highTrip.or earlier.highTrip
    hysteresis := later.hysteresis.or earlier.hysteresis
    persistence := later.persistence.or earlier.persistence
    actions := later.actions.or earlier.actions
    staleTrips := later.staleTrips.or earlier.staleTrips
    sleepDivider := later.sleepDivider.or earlier.sleepDivider }

/-- R15: a definition with the fields of a change replaced or removed. -/
def Change.applyTo (c : Change) (d : Definition) : Definition :=
  { d with
    slot := c.slot.or d.slot
    divider := c.divider.getD d.divider
    limits :=
      { lowTrip := c.lowTrip.getD d.limits.lowTrip
        lowWarn := c.lowWarn.getD d.limits.lowWarn
        highWarn := c.highWarn.getD d.limits.highWarn
        highTrip := c.highTrip.getD d.limits.highTrip }
    hysteresis := c.hysteresis.getD d.hysteresis
    persistence := c.persistence.getD d.persistence
    actions := c.actions.getD d.actions
    staleTrips := c.staleTrips.getD d.staleTrips
    sleepDivider := c.sleepDivider.getD d.sleepDivider }

/-- The change that names nothing. -/
def Change.nothing : Change :=
  { slot := none, divider := none, lowTrip := none, lowWarn := none, highWarn := none, highTrip := none,
    hysteresis := none, persistence := none, actions := none, staleTrips := none, sleepDivider := none }

/-- The limits a change gives as values. -/
def Change.givenLimits (c : Change) : List Int :=
  [c.lowTrip, c.lowWarn, c.highWarn, c.highTrip].filterMap (fun x => x.getD none)

/-- R20, R21: every field value of a change is within its range, the limits within `r`. -/
def Change.rangesOk (c : Change) (r : Int × Int) : Bool :=
  c.slot.all (· ≤ 31) && c.divider.all (between 1 64) && c.hysteresis.all (· ≤ 65535) &&
    c.persistence.all (between 1 15) && c.sleepDivider.all (fun x => x.all (between 1 16)) &&
    c.givenLimits.all (inRange r)

/-- R21: a change of AMENDG names limits, hysteresis and persistence alone. -/
def Change.groupOnly (c : Change) : Bool :=
  c.slot.isNone && c.divider.isNone && c.actions.isNone && c.staleTrips.isNone && c.sleepDivider.isNone

end Sys2Proof.Machine
end

