-- ==== Sys2Proof/Machine/Ops.lean ====
section
/-! DEFINITION. The named operations that every block's meanings share: the bank memory, ordered sets of ids, point
records and the sets derived from them, counts and times, the staged targets, the free choices, and the port that takes
a request and places its answer. The block has no exception entry: raising a cause (Flags) is its counterpart. -/

namespace Sys2Proof.Machine

/-! ## Bank memory (11.7): an unlisted address reads the erased byte 0xFF -/

def Memory.read : Memory → Nat → Byte
  | [], _ => erasedByte
  | (a, b) :: m, x => if x = a then b else Memory.read m x

/-- The canonical form: addresses strictly rising, no entry equal to the erased byte. -/
def Memory.wf : Memory → Bool
  | [] => true
  | [(_, b)] => decide (b ≠ erasedByte)
  | (a, b) :: (a', b') :: m => decide (b ≠ erasedByte) && decide (a < a') && Memory.wf ((a', b') :: m)

/-- Bytes at rising addresses, as memory lists them: an erased byte is not listed. -/
def cellsFrom (x : Nat) : List Byte → Memory
  | [] => []
  | v :: vs => if v = erasedByte then cellsFrom (x + 1) vs else (x, v) :: cellsFrom (x + 1) vs

/-- A write of bytes at rising addresses from `x`; equal memories stay equal lists. -/
def Memory.writeBytes (m : Memory) (x : Nat) (vs : List Byte) : Memory :=
  m.filter (fun c => decide (c.1 < x)) ++ cellsFrom x vs ++ m.filter (fun c => decide (x + vs.length ≤ c.1))

/-- The bytes at `n` rising addresses from `x`, of a memory that lists nothing below `x`. -/
def Memory.fill (x : Nat) : Nat → Memory → List Byte
  | 0, _ => []
  | n + 1, [] => erasedByte :: Memory.fill (x + 1) n []
  | n + 1, (a, b) :: m =>
    if a = x then b :: Memory.fill (x + 1) n m else erasedByte :: Memory.fill (x + 1) n ((a, b) :: m)

/-- The bytes read at `n` rising addresses from `x`, in one pass over the memory. -/
def Memory.readBytes (m : Memory) (x n : Nat) : List Byte := Memory.fill x n (m.filter (fun c => decide (x ≤ c.1)))

/-! ## Sets of ids, ascending without repeats -/

def insertId (x : Nat) : List Nat → List Nat
  | [] => [x]
  | y :: ys => if x < y then x :: y :: ys else if x = y then y :: ys else y :: insertId x ys

def removeId (x : Nat) (ids : List Nat) : List Nat := ids.filter (· != x)

/-- R1: the ids of the table, ascending. -/
@[irreducible] def tableIds : List Nat := List.range 384

/-- The ids of the table that satisfy a test, ascending. -/
def idsWhere (p : Nat → Bool) : List Nat := tableIds.filter p

/-! ## Counts and times -/

/-- A count that saturates. -/
def satIncr {w : Nat} (x : BitVec w) : BitVec w := if x = BitVec.allOnes w then x else x + 1

/-- R93: a duration is the later sense time minus the earlier, modulo 2^32, here as a number of counts. -/
def elapsed (later earlier : Word32) : Nat := (later - earlier).toNat

/-- R150: of two sequences the first is the newer when it lies 1 to 2^31 - 1 above the other. -/
def newerThan (x y : Word32) : Bool :=
  decide (1 ≤ (x - y).toNat) && decide ((x - y).toNat ≤ 2147483647)

/-! ## Point records -/

/-- R1: the record of every id exists; an id above 383 names none, and reads as VACANT. -/
def State.point (s : State) (id : Nat) : Point := (s.table.points[id]?).getD .vacant

def State.setPoint (id : Nat) (p : Point) (s : State) : State :=
  { s with table := { s.table with points := s.table.points.setIfInBounds id p } }

def Point.isLive : Point → Bool
  | .live _ _ _ => true
  | .vacant => false
  | .enlisting _ => false

def Point.isVacant : Point → Bool
  | .vacant => true
  | .live _ _ _ => false
  | .enlisting _ => false

/-- The definition of a LIVE or ENLISTING point. -/
def Point.definition? : Point → Option Definition
  | .vacant => none
  | .enlisting d => some d
  | .live d _ _ => some d

/-- The definition of a LIVE point. -/
def Point.liveDefinition? : Point → Option Definition
  | .live d _ _ => some d
  | .vacant => none
  | .enlisting _ => none

def Point.retireMarked : Point → Bool
  | .live _ _ (some .retire) => true
  | _ => false

/-- The latest value of a LIVE point (R26, R102). -/
def Point.value? : Point → Option Int
  | .live _ l _ => l.sample.map (·.value)
  | .vacant => none
  | .enlisting _ => none

/-- The ids of LIVE points whose definition satisfies a test, ascending. -/
def State.liveIds (s : State) (p : Definition → Bool) : List Nat :=
  idsWhere (fun id => (s.point id).liveDefinition?.any p)

/-- R14: the live part of a point that enters LIVE. -/
def Live.fresh (amended : Bool) : Live :=
  { condition := .idle, sample := none, missed := 0, excursion := 0, tripCause := none, spot := none,
    amended := amended }

/-! ## The inhibit set and the changed-point set -/

/-- R39: the points that belong in the inhibit set. -/
def Point.inhibits : Point → Bool
  | .live d l _ => (d.actions.inhibit && l.condition != .normal) || (d.actions.opens && l.condition == .tripped)
  | .vacant => false
  | .enlisting _ => false

/-- R40, R41, R102: a notice is sent, behind those sent before it. -/
def State.sendNotice (n : Notice) (s : State) : State :=
  { s with table := { s.table with notices := s.table.notices ++ [n] } }

/-- R39, R40: the inhibit set is brought up to date for one point; an entry sends an inhibit notice, leaving sends none. -/
def State.refreshInhibit (id : Nat) (s : State) : State :=
  if (s.point id).inhibits then
    if s.table.inhibitSet.contains id then s
    else ({ s with table := { s.table with inhibitSet := insertId id s.table.inhibitSet } }).sendNotice (.inhibit id)
  else { s with table := { s.table with inhibitSet := removeId id s.table.inhibitSet } }

/-- R39, R40: the inhibit set is brought up to date for every point, entries sending notices in ascending order of id. -/
def State.refreshAllInhibits (s : State) : State :=
  tableIds.foldl (fun t id => t.refreshInhibit id) s

/-- R43, R44: an id joins the changed-point set; the set is then not empty, so POINTS stands. -/
def State.addChanged (id : Nat) (s : State) : State :=
  ({ s with table := { s.table with changedSet := insertId id s.table.changedSet } }).raise .points

/-- R44: POINTS stands exactly while the changed-point set holds an id. -/
def State.setChanged (ids : List Nat) (s : State) : State :=
  let t := { s with table := { s.table with changedSet := ids } }
  if ids.isEmpty then t.clear .points else t.raise .points

/-- R43: an id leaves the changed-point set. -/
def State.removeChanged (id : Nat) (s : State) : State :=
  if s.table.changedSet.contains id then s.setChanged (removeId id s.table.changedSet) else s

/-- R16: a point becomes VACANT and leaves the inhibit set, the changed-point set and the tail queue. -/
def State.vacate (id : Nat) (s : State) : State :=
  let s1 := s.setPoint id .vacant
  let s2 := { s1 with table := { s1.table with inhibitSet := removeId id s1.table.inhibitSet } }
  let s3 := s2.removeChanged id
  { s3 with clock := { s3.clock with tail := s3.clock.tail.filter (· != TailItem.spot id) } }

/-! ## The stage as the other blocks see it (R184): empty unless a transaction is open or in flight -/

/-- R23: an id is the target of a POINT or REMOVE item. -/
def Item.targets (id : Nat) : Item → Bool
  | .point i _ => i == id
  | .remove i => i == id
  | .group _ => false
  | .profile _ => false
  | .frame _ => false

/-- R23: an id is named in a staged definition: as a member, or in a PROFILE item. -/
def Item.names (id : Nat) : Item → Bool
  | .point _ d => d.members.contains id
  | .profile p => p.packPoint == id || p.busPoint == id || p.currentPoint == id
  | .remove _ => false
  | .group _ => false
  | .frame _ => false

/-- R2: a chain source is held by a POINT item. -/
def Item.holdsSource (k : Kind) (monitor channel : Option Nat) : Item → Bool
  | .point _ d => k.isCell && d.kind == k && d.monitor == monitor && d.channel == channel
  | .remove _ => false
  | .group _ => false
  | .profile _ => false
  | .frame _ => false

def Item.frame? : Item → Option FrameParams
  | .frame f => some f
  | .point _ _ => none
  | .remove _ => none
  | .group _ => none
  | .profile _ => none

def Item.profile? : Item → Option Profile
  | .profile p => some p
  | .point _ _ => none
  | .remove _ => none
  | .group _ => none
  | .frame _ => none

def State.staged (s : State) (id : Nat) : Bool := s.engine.stage.any (Item.targets id)
def State.namedInStage (s : State) (id : Nat) : Bool := s.engine.stage.any (Item.names id)
def State.stagedFrame? (s : State) : Option FrameParams := s.engine.stage.findSome? Item.frame?
def State.stagedProfile? (s : State) : Option Profile := s.engine.stage.findSome? Item.profile?

/-- A commit is in flight: VERIFYING, WRITING or APPLYING. -/
def UpdateState.inFlight : UpdateState → Bool
  | .verifying => true
  | .writing => true
  | .applying => true
  | .idle => false
  | .staging => false

/-- R5: the smallest slot count among the active parameters, a waiting SETFRM and a staged FRAME item. -/
def State.smallestSlotCount (s : State) : Nat :=
  let a := s.clock.active.slotCount
  let b := match s.clock.waiting with
    | some p => min a p.slotCount
    | none => a
  match s.stagedFrame? with
  | some f => min b f.slotCount
  | none => b

/-! ## Stored definitions (11.7, R11) -/

def State.bank (s : State) : BankId → Memory
  | .bank0 => s.store.bank0
  | .bank1 => s.store.bank1

/-- R11, R157: the definition the active bank stores for an id, or its absence. -/
def State.storedDefinition (s : State) (id : Nat) : Option Definition :=
  match s.store.activeBank with
  | none => none
  | some b => decodeEntry ((s.bank b).readBytes (entryAddress id) entrySize)

/-! ## Free choices (log 11) -/

/-- The next free choice. -/
def State.freeChoice (s : State) : Bool := Config.freeChoice s.freeIndex

/-- One free choice has been taken. -/
def State.nextChoice (s : State) : State := { s with freeIndex := s.freeIndex + 1 }

/-! ## The ring -/

/-- R68: a down message is sent. -/
def State.sendDown (m : List Byte) (s : State) : State :=
  { s with chain := { s.chain with sent := s.chain.sent ++ [m] } }

/-! ## The port (R185 to R189) -/

/-- What the owner of a request answers: at the taking of the request, later (the slot is left WAITING), or not at all
in the slot (a WAKE taken in sleep, R143). -/
inductive Reply where
  | now (answer : AnswerCode) (body : List Byte)
  | later
  | silent
  deriving DecidableEq, Repr

def State.setSlot (x : AnswerSlot) (s : State) : State := { s with port := { s.port with slot := x } }

/-- R188, R189: an answer frame is placed in the answer slot. -/
def State.placeAnswer (code : Byte) (a : AnswerCode) (body : List Byte) (s : State) : State :=
  s.setSlot (.holding (answerFrame code a body))

def State.placeReply (code : Byte) : Reply → State → State
  | .now a body, s => s.placeAnswer code a body
  | .later, s => s.setSlot (.waiting code)
  | .silent, s => s

/-- A refusal changes nothing and carries an empty body (R188). -/
def refuse (a : AnswerCode) (s : State) : State × Reply := (s, .now a [])

/-- R130: what the power state does with a request. -/
inductive Gate where
  | handed
  | starting
  | ignored
  deriving DecidableEq, Repr

/-- R130: STATUS and IDENT are answered while the part starts or wakes; WAKE alone is taken in sleep. -/
def gate (p : PowerState) (code : Byte) : Gate :=
  match p with
  | .active => .handed
  | .settling => .handed
  | .loading => if code = codeStatus ∨ code = codeIdent then .handed else .starting
  | .discovering => if code = codeStatus ∨ code = codeIdent then .handed else .starting
  | .waking => if code = codeStatus ∨ code = codeIdent then .handed else .starting
  | .deepSleep => if code = codeWake then .handed else .ignored
  | .sleepFrame => if code = codeWake then .handed else .ignored

/-- R187: a frame that passed its checks is taken: the power state, then the body length, then the owner. -/
def takeRequest (code : Byte) (lengthOk : Bool) (owner : State → State × Reply) (s : State) : State :=
  match gate s.power.state code with
  | .ignored => s
  | .starting => s.placeAnswer code .starting []
  | .handed =>
    if lengthOk then
      let r := owner s
      r.1.placeReply code r.2
    else s.placeAnswer code .badArgument []

/-- What every command does when the part has no supply: nothing; otherwise the pins follow the state it ends in. -/
def event (f : State → State) (s : State) : Host.Outcome State Fault Refusal :=
  if s.vsup then .next (f s).drive else .next s

end Sys2Proof.Machine
end

