-- ==== Sys2Proof/Machine/Arbiter.lean ====
section
/-! DEFINITION. Chapter 8: the areas of the Nonvolatile Store as a load reads them, the write arbiter with its three kinds
of write, and what a power loss leaves of a write. -/

namespace Sys2Proof.Machine

/-! ## Areas (8.1) -/

def State.setBank (b : BankId) (m : Memory) (s : State) : State :=
  match b with
  | .bank0 => { s with store := { s.store with bank0 := m } }
  | .bank1 => { s with store := { s.store with bank1 := m } }

def State.bankState (s : State) : BankId → BankState
  | .bank0 => s.store.state0
  | .bank1 => s.store.state1

def State.setBankState (b : BankId) (x : BankState) (s : State) : State :=
  match b with
  | .bank0 => { s with store := { s.store with state0 := x } }
  | .bank1 => { s with store := { s.store with state1 := x } }

def BankId.other : BankId → BankId
  | .bank0 => .bank1
  | .bank1 => .bank0

/-- R149: a header carries a mark when the whole pattern is present. -/
def Memory.begun (m : Memory) : Bool := m.readBytes 0 4 == beginMark
def Memory.complete (m : Memory) : Bool := m.readBytes completeAddress 4 == completeMark
def Memory.version (m : Memory) : Word32 := word32 (m.readBytes versionAddress 4) 0

/-- R149: the state a load finds in a bank. -/
def Memory.bankState (m : Memory) : BankState :=
  if m.complete then
    if m.readBytes crcAddress 4 = leWord32 (crc32 (m.readBytes imageAddress imageSize)) then .valid else .damaged
  else if m.begun then .interrupted
  else .empty

/-- 11.7: the point entries of an image, one after another. -/
def decodeEntries : Nat → List Byte → List (Option Definition)
  | 0, _ => []
  | n + 1, bytes => decodeEntry (bytes.take entrySize) :: decodeEntries n (bytes.drop entrySize)

/-- 11.7: an image read back from its bytes. -/
def Image.decode (bytes : List Byte) : Image :=
  let entries := decodeEntries 384 bytes
  let rest := bytes.drop (entrySize * 384)
  { points := Vector.ofFn (fun id : Fin 384 => (entries[id.val]?).getD none)
    profile := decodeStoredProfile (rest.take 18)
    frame := FrameParams.decode (rest.drop 18) 0 }

/-- R157, 11.7: the image a bank stores. -/
def Memory.image (m : Memory) : Image := Image.decode (m.readBytes imageAddress imageSize)

/-- The image of the active bank, BLANK with none (R157). -/
def State.activeImage (s : State) : Image :=
  match s.store.activeBank with
  | none => Image.blank
  | some b => (s.bank b).image

/-- R150: the counter slot in force: the newer valid slot, CA_A with equal sequences, the one valid slot, or none. Of two
sequences 2^31 apart neither is newer by the rule; CA_A is then taken (log 37). -/
def selectCounterSlot (a b : CounterSlot) : Option SlotId :=
  match a, b with
  | .valid x _, .valid y _ => if newerThan y x then some .caB else some .caA
  | .valid _ _, .invalid => some .caA
  | .invalid, .valid _ _ => some .caB
  | .invalid, .invalid => none

/-- R151: the key copy in force, chosen among the VALID copies as a counter slot is, copy A where CA_A would be taken; so
too of two generations 2^31 apart (log 37). -/
def selectKeyCopy (a b : KeyCopy) : Option CopyId :=
  match a, b with
  | .valid x _, .valid y _ => if newerThan y x then some .copyB else some .copyA
  | .valid _ _, _ => some .copyA
  | _, .valid _ _ => some .copyB
  | _, _ => none

/-- R150: what a load reads from a counter slot. -/
def Store.counterSlot (x : Store) : SlotId → CounterSlot
  | .caA => .decode x.slotA
  | .caB => .decode x.slotB

def State.counterSlot (s : State) (i : SlotId) : CounterSlot := s.store.counterSlot i

def State.setCounterSlot (i : SlotId) (x : SlotBytes) (s : State) : State :=
  match i with
  | .caA => { s with store := { s.store with slotA := x } }
  | .caB => { s with store := { s.store with slotB := x } }

def SlotId.other : SlotId → SlotId
  | .caA => .caB
  | .caB => .caA

/-- R151: what a load reads from a key copy. -/
def Store.keyCopy (x : Store) : CopyId → KeyCopy
  | .copyA => .decode x.keyA
  | .copyB => .decode x.keyB

def State.keyCopy (s : State) (i : CopyId) : KeyCopy := s.store.keyCopy i

def State.setKeyCopy (i : CopyId) (x : CopyBytes) (s : State) : State :=
  match i with
  | .copyA => { s with store := { s.store with keyA := x } }
  | .copyB => { s with store := { s.store with keyB := x } }

def CopyId.other : CopyId → CopyId
  | .copyA => .copyB
  | .copyB => .copyA

/-- R151: the record of the key copy in force; EMPTY, absent and clear with none in force. -/
def State.keyRecordInForce (s : State) : KeyRecord :=
  match s.store.keyInForce with
  | none => { key := none, finalLock := false }
  | some c =>
    match s.keyCopy c with
    | .valid _ r => r
    | .erased => { key := none, finalLock := false }
    | .bad => { key := none, finalLock := false }

/-- R156: the generation of the key copy in force. -/
def State.keyGeneration (s : State) : Option Word32 :=
  match s.store.keyInForce with
  | none => none
  | some c =>
    match s.keyCopy c with
    | .valid g _ => some g
    | .erased => none
    | .bad => none

/-- R158: the snapshot of the slot in force, or the reset snapshot. -/
def CounterSnapshot.reset : CounterSnapshot :=
  { closeNeg := 0, closePos := 0, loadedNeg := 0, loadedPos := 0, lockoutFlag := false, lockoutCause := none,
    tamperLatch := false, tamperCount := 0 }

def CounterSlot.snapshot : CounterSlot → CounterSnapshot
  | .valid _ x => x
  | .invalid => .reset

def CounterSlot.sequence : CounterSlot → Word32
  | .valid n _ => n
  | .invalid => 0

/-! ## The arbiter (R152) -/

def State.setInFlight (x : InFlight) (s : State) : State := { s with store := { s.store with inFlight := x } }

/-- R152: the busy test. -/
def State.storeBusy (s : State) : Bool :=
  s.store.inFlight != .none || s.store.suspended.isSome || s.store.counterPending || s.store.waiting.isSome

/-- R131: a key write is in flight. -/
def State.keyWriteInFlight (s : State) : Bool :=
  match s.store.inFlight with
  | .key _ => true
  | .none => false
  | .bank _ => false
  | .counter _ => false

/-- R150, R154: the snapshot, taken from its owners as they stand. -/
def State.snapshot (s : State) : CounterSnapshot :=
  { closeNeg := s.seq.closeNeg, closePos := s.seq.closePos, loadedNeg := s.seq.loadedNeg, loadedPos := s.seq.loadedPos
    lockoutFlag := s.seq.state == .lockout
    lockoutCause := s.seq.lockoutCause
    tamperLatch := s.engine.tamperLatch
    tamperCount := s.engine.tamperCount }

/-- R154: a counter write starts: into the slot not in force, with the next sequence and the snapshot of this event. -/
def State.startCounterWrite (forSettling : Bool) (s : State) : State :=
  let slot := match s.store.slotInForce with
    | some x => x.other
    | none => .caA
  s.setInFlight (.counter
    { slot := slot, sequence := s.store.sequence + 1, snapshot := s.snapshot, forSettling := forSettling })

/-- R152, R155: a counter write request starts a write or is carried by the pending one; `forSettling` marks SETTLING's
own request (R133). -/
def State.requestCounterWrite (forSettling : Bool) (s : State) : State :=
  match s.store.inFlight with
  | .none => s.startCounterWrite forSettling
  | _ =>
    { s with store := { s.store with
        counterPending := true
        settlingWaits := s.store.settlingWaits || forSettling } }

/-- R153: the bank a write goes into: the one that is not active, or BANK_0 when none is. -/
def State.writeTarget (s : State) : BankId :=
  match s.store.activeBank with
  | some b => b.other
  | none => .bank0

/-- R153: the header that OPEN writes: begun mark, version, the image's CRC-32, and no complete mark. Its
place then holds four erased bytes; R153 does not say which bytes stand there (log 12). -/
def openHeader (version : Word32) (image : Image) : List Byte :=
  beginMark ++ leWord32 version ++ leWord32 (crc32 image.encode) ++ List.replicate 4 erasedByte

/-- R153: a bank write starts with OPEN: the target bank becomes INTERRUPTED at once, whatever it held. -/
def State.startBankWrite (r : BankRequest) (s : State) : State :=
  let b := s.writeTarget
  ((s.setBank b ((s.bank b).writeBytes 0 (openHeader r.version r.image))).setBankState b .interrupted).setInFlight
    (.bank { target := b, version := r.version, image := r.image, unit := .header })

/-- R152: a bank write request is started, or waits behind a counter or key write. While it waits the target bank stands as
it was, as R153 says, though R173 and R183 call it INTERRUPTED throughout WRITING (log 44). -/
def State.requestBankWrite (r : BankRequest) (s : State) : State :=
  match s.store.inFlight with
  | .none => s.startBankWrite r
  | _ => { s with store := { s.store with waiting := some r } }

/-- R152: at the end of a write the next holder starts: a pending counter write, then the suspended bank write, then the
waiting bank write; with none of these in_flight becomes none. -/
def State.startNextWrite (s : State) : State :=
  if s.store.counterPending then
    let w := s.store.settlingWaits
    ({ s with store := { s.store with counterPending := false, settlingWaits := false } }).startCounterWrite w
  else
    match s.store.suspended with
    | some w => ({ s with store := { s.store with suspended := none } }).setInFlight (.bank w)
    | none =>
      match s.store.waiting with
      | some r => ({ s with store := { s.store with waiting := none } }).startBankWrite r
      | none => s.setInFlight .none

/-! ## Units of a bank write (R153) -/

/-- The bytes that PAGE `k` writes, from 1: 757 bytes each, the last page 748. -/
def pageBytes (image : Image) (k : Nat) : List Byte := (image.encode.drop (pageSize * (k - 1))).take pageSize

/-- R153: the address of PAGE `k` in the bank. -/
def pageAddress (k : Nat) : Nat := imageAddress + pageSize * (k - 1)

/-- What the end of a unit leads to. -/
inductive UnitEnd where
  | goOn (next : BankUnit)
  | done
  | failed
  deriving DecidableEq, Repr

/-- R153: what follows a unit, given whether a read-back matched. -/
def BankUnit.ended (readBackMatches : Bool) : BankUnit → UnitEnd
  | .header => .goOn (.page 1)
  | .page k => if k < 32 then .goOn (.page (k + 1)) else .goOn .check
  | .check => if readBackMatches then .goOn .close else .goOn .retract
  | .close => if readBackMatches then .done else .goOn .retract
  | .retract => .failed

/-- R153: the work of a unit on the target bank at its end: a page is written, a matched CLOSE leaves the complete mark,
RETRACT leaves a header with neither mark: erased bytes in the place of each, and the version and CRC-32 as OPEN wrote
them, where R153 does not say which bytes stand (log 12). -/
def BankWrite.work (w : BankWrite) (readBackMatches : Bool) (m : Memory) : Memory :=
  match w.unit with
  | .header => m
  | .page k => m.writeBytes (pageAddress k) (pageBytes w.image k)
  | .check => m
  | .close => if readBackMatches then m.writeBytes completeAddress completeMark else m
  | .retract => (m.writeBytes 0 (List.replicate 4 erasedByte)).writeBytes completeAddress (List.replicate 4 erasedByte)

/-- R153, R155: the write goes on with its next unit, or is suspended at this end for a pending counter write. -/
def State.continueBankWrite (w : BankWrite) (s : State) : State :=
  if s.store.counterPending then ({ s with store := { s.store with suspended := some w } }).startNextWrite
  else s.setInFlight (.bank w)

/-- R153: the events of a DONE at the Store: the target is VALID and active, the active version is the write's. -/
def State.bankDone (w : BankWrite) (s : State) : State :=
  let t := s.setBankState w.target .valid
  { t with store := { t.store with activeBank := some w.target, activeVersion := w.version } }

/-! ## Key writes (R156) -/

/-- R156: a key write starts, into the copy not in force with the next generation; with the final lock set in the copy in
force it is FAILED at once, and the second component is false. -/
def State.startKeyWrite (r : KeyRecord) (requester : Byte) (s : State) : State × Bool :=
  if s.keyRecordInForce.finalLock then (s.raise .store, false)
  else
    let copy := match s.store.keyInForce with
      | some c => c.other
      | none => .copyA
    let generation := match s.keyGeneration with
      | some g => g + 1
      | none => 1
    (s.setInFlight (.key { copy := copy, generation := generation, record := r, requester := requester }), true)

/-! ## Power loss (R161) -/

/-- R161: a bank write cut in the retraction leaves INTERRUPTED or EMPTY, as far as the retraction reached (log 11). -/
def State.cutRetraction (w : BankWrite) (s : State) : State :=
  let t := s.nextChoice
  if s.freeChoice then t.setBank w.target (w.work true (t.bank w.target)) else t

/-- What a cut leaves in an area being written, before the area's own state is looked at: bytes that nothing constrains
(log 11). -/
def State.freeArea (n : Nat) (s : State) : Vector Byte n :=
  Vector.ofFn (fun i => Config.freeByte s.freeIndex i.val)

/-- R161: a cut counter write leaves an invalid slot. -/
def State.cutSlot (s : State) : SlotBytes :=
  match CounterSlot.decode (s.freeArea 29) with
  | .invalid => s.freeArea 29
  | .valid _ _ => erasedArea 29

/-- R161: a cut key write leaves a BAD or ERASED copy. -/
def State.cutCopy (s : State) : CopyBytes :=
  match KeyCopy.decode (s.freeArea 40) with
  | .erased => s.freeArea 40
  | .bad => s.freeArea 40
  | .valid _ _ => erasedArea 40

/-- R161: every write in flight ends at the loss. A cut or suspended bank write leaves its begun mark, a cut counter
write an invalid slot, a cut key write a BAD or ERASED copy (log 11). -/
def State.cutWrites (s : State) : State :=
  match s.store.inFlight with
  | .none => s
  | .bank w => if w.unit = .retract then s.cutRetraction w else s
  | .counter w => (s.nextChoice).setCounterSlot w.slot s.cutSlot
  | .key w => (s.nextChoice).setKeyCopy w.copy s.cutCopy

end Sys2Proof.Machine
end

