-- ==== Sys2Proof/Machine/Sequencing.lean ====
section
/-! DEFINITION. Chapter 6: the transitions of the Contactor Sequencer and what each of its events does in each state. -/

namespace Sys2Proof.Machine

/-- The two mains. -/
inductive Main where
  | neg
  | pos
  deriving DecidableEq, Repr

/-! ## Settings, timer and latest values -/

/-- A profile's settings where the sequencer holds none; it then is OPEN or LOCKOUT and reads none of them (R101). -/
def Profile.absent : Profile :=
  { packPoint := 384, busPoint := 384, currentPoint := 384, prechargeRatio := 0, prechargeTimeout := 0,
    minPrecharge := 0, auxConfirm := 0, dropout := 0, breakLimit := 0, deferMax := 0 }

def State.profileOr (s : State) : Profile := s.seq.profile.getD .absent

/-- R104: a setting in milliseconds, read as ten counts each, counted from the present sense time. -/
def State.timerOf (s : State) (name : TimerName) (ms : Nat) : SeqTimer :=
  { name := name, start := s.sense.time, counts := 10 * ms }

/-- R104, R126: the counts left on a timer. -/
def SeqTimer.remaining (t : SeqTimer) (now : Word32) : Nat := t.counts - elapsed now t.start

/-- R102: the latest value of a reference point. -/
def State.valueOf (s : State) (id : Nat) : Option Int := (s.point id).value?

/-- R112, R116: a present value whose magnitude is at most break_limit may be broken. -/
def breakable (limit : Nat) (v : Option Int) : Bool := v.any (fun x => decide (x.natAbs ≤ limit))

def State.currentBreakable (s : State) : Bool :=
  breakable s.profileOr.breakLimit (s.valueOf s.profileOr.currentPoint)

/-! ## Transitions (R103) -/

/-- Entry to a state with a timer counted from its coil instant (R104). -/
def State.enterTimed (x : SeqState) (name : TimerName) (ms : Nat) (s : State) : State :=
  { s with seq := { s.seq with state := x, coilInstant := s.sense.time, timer := some (s.timerOf name ms) } }

/-- R106: entry to NEG_CLOSING energizes the negative main. -/
def State.enterNegClosing (s : State) : State := s.enterTimed .negClosing .auxConfirm s.profileOr.auxConfirm

/-- R108: entry to PRECHARGING energizes the precharge contactor. -/
def State.enterPrecharging (s : State) : State := s.enterTimed .precharging .precharge s.profileOr.prechargeTimeout

/-- R109: entry to POS_CLOSING energizes the positive main. -/
def State.enterPosClosing (s : State) : State := s.enterTimed .posClosing .auxConfirm s.profileOr.auxConfirm

/-- R110, R124, R125: entry to CLOSED de-energizes the precharge contactor, requests a counter write, raises CONTACTOR. -/
def State.enterClosed (s : State) : State :=
  let t := { s with seq := { s.seq with state := .closed, coilInstant := s.sense.time, timer := none } }
  (t.requestCounterWrite false).raise .contactor

/-- R112, R104: entry to DEFERRING changes no coil; its timer is counted from the taking of the OPEN. -/
def State.enterDeferring (s : State) : State :=
  { s with seq := { s.seq with
      state := .deferring, timer := some (s.timerOf .defer s.profileOr.deferMax), lastCause := some .requestedOpen } }

/-- R116: an entry to OPENING from CLOSED or DEFERRING is loaded unless the latest current may be broken: the value that the
Point Table holds at the coil instant (R102), also where its reference sample is still to be taken (log 42). -/
def State.opensLoaded (s : State) : Bool :=
  (s.seq.state == .closed || s.seq.state == .deferring) && !s.currentBreakable

/-- R116: a loaded opening counts for both mains. -/
def State.countLoaded (loaded : Bool) (s : State) : State :=
  if loaded then
    { s with seq := { s.seq with loadedNeg := satIncr s.seq.loadedNeg, loadedPos := satIncr s.seq.loadedPos } }
  else s

/-- R117: entry to OPENING: every coil off at one instant, the dropout timer, the opening context, last_cause. -/
def State.enterOpening (cause : Cause) (s : State) : State :=
  let loaded := s.opensLoaded
  let context : OpeningContext :=
    { firstCause := cause
      crashSeen := cause == .crash
      negWasOn := s.seq.state.drvNeg
      posWasOn := s.seq.state.drvPos
      deEnergizedAt := s.sense.time
      loaded := loaded }
  let t := s.countLoaded loaded
  { t with seq := { t.seq with
      state := .opening, coilInstant := t.sense.time, timer := some (t.timerOf .dropout t.profileOr.dropout)
      lastCause := some cause, context := some context } }

/-- R119, R122: entry to OPEN: a counter write is requested and CONTACTOR raised. -/
def State.enterOpen (s : State) : State :=
  let t := { s with seq := { s.seq with state := .opened, timer := none, context := none, lockoutCause := none } }
  (t.requestCounterWrite false).raise .contactor

/-- R119, R120: entry to LOCKOUT: lockout_cause, a counter write, CONTACTOR. -/
def State.enterLockout (cause : LockoutCause) (s : State) : State :=
  let t := { s with seq := { s.seq with
    state := .lockout, timer := none, context := none, lockoutCause := some cause } }
  (t.requestCounterWrite false).raise .contactor

/-- R120: a lockout entered from OPEN also names its cause in last_cause. -/
def State.lockoutAtRest (cause : LockoutCause) (last : Cause) (s : State) : State :=
  ({ s with seq := { s.seq with lastCause := some last } }).enterLockout cause

/-- R107: a closing transition is taken only while the inhibit set is empty; otherwise OPENING with cause INHIBIT and the
lowest id in the set. -/
def State.unlessInhibited (go : State → State) (s : State) : State :=
  match s.table.inhibitSet with
  | [] => go s
  | id :: _ => s.enterOpening (.inhibit id)

/-! ## Auxiliary edges (R108 to R110, R115, R118, R120) -/

def auxStuck : Main → Cause
  | .neg => .auxStuckNeg
  | .pos => .auxStuckPos

def auxLost : Main → Cause
  | .neg => .auxLostNeg
  | .pos => .auxLostPos

def auxStuckLockout : Main → LockoutCause
  | .neg => .auxStuckNeg
  | .pos => .auxStuckPos

/-- R108, R110: an edge arriving 3 ms or more after the coil instant is a confirmation. -/
def State.confirms (s : State) : Bool := decide (30 ≤ elapsed s.sense.time s.seq.coilInstant)

/-- R108, R110: what a confirmation records: the main's last_close_time and close_count. -/
def State.recordClose (m : Main) (stamp : Word32) (s : State) : State :=
  match m with
  | .neg => { s with seq := { s.seq with
      lastCloseNeg := some (stamp - s.seq.coilInstant), closeNeg := satIncr s.seq.closeNeg } }
  | .pos => { s with seq := { s.seq with
      lastClosePos := some (stamp - s.seq.coilInstant), closePos := satIncr s.seq.closePos } }

/-- R123: a main opened before the coil instant when the stamp of its edge is older than that instant, both ages taken
at the edge's arrival as durations of R93. -/
def State.openedBefore (stamp coilInstant : Word32) (s : State) : Bool :=
  decide (elapsed s.sense.time coilInstant < elapsed s.sense.time stamp)

/-- R118, R123: in OPENING an edge to OPEN of a main that was on writes its last_open_time, but for a main that opened
before the coil instant. Such a main whose contact closes and opens once more within dropout has its second edge recorded by
R118, though R123 gives it no new time from that opening (log 43). -/
def State.recordOpen (m : Main) (stamp : Word32) (s : State) : State :=
  match s.seq.context with
  | none => s
  | some c =>
    if s.openedBefore stamp c.deEnergizedAt then s
    else
      match m with
      | .neg => if c.negWasOn then { s with seq := { s.seq with lastOpenNeg := some (stamp - c.deEnergizedAt) } } else s
      | .pos => if c.posWasOn then { s with seq := { s.seq with lastOpenPos := some (stamp - c.deEnergizedAt) } } else s

/-- An auxiliary edge reaches the sequencer: which main, whether its contact now shows CLOSED, and the stamp. -/
def State.auxEdge (m : Main) (closed : Bool) (stamp : Word32) (s : State) : State :=
  match s.seq.state, m, closed with
  | .opened, _, true => s.lockoutAtRest (auxStuckLockout m) (auxStuck m)
  | .opened, _, false => s
  | .negClosing, .neg, true =>
    if s.confirms then (s.recordClose .neg stamp).unlessInhibited State.enterPrecharging
    else s.enterOpening .auxStuckNeg
  | .negClosing, .pos, true => s.enterOpening .auxStuckPos
  | .negClosing, _, false => s
  | .precharging, .neg, false => s.enterOpening .auxLostNeg
  | .precharging, .pos, true => s.enterOpening .auxStuckPos
  | .precharging, .neg, true => s
  | .precharging, .pos, false => s
  | .posClosing, .pos, true =>
    if s.confirms then (s.recordClose .pos stamp).unlessInhibited State.enterClosed
    else s.enterOpening .auxStuckPos
  | .posClosing, .neg, false => s.enterOpening .auxLostNeg
  | .posClosing, .neg, true => s
  | .posClosing, .pos, false => s
  | .closed, _, false => s.enterOpening (auxLost m)
  | .closed, _, true => s
  | .deferring, _, false => s.enterOpening (auxLost m)
  | .deferring, _, true => s
  | .opening, _, false => s.recordOpen m stamp
  | .opening, _, true => s
  | .lockout, _, _ => s

/-! ## Crash events (R111, R115, R118, R120) -/

def State.noteCrash (s : State) : State :=
  { s with seq := { s.seq with context := s.seq.context.map (fun c => { c with crashSeen := true }) } }

/-- A crash event reaches the sequencer. -/
def State.crashAtSequencer (s : State) : State :=
  match s.seq.state with
  | .opened => s.lockoutAtRest .crash .crash
  | .negClosing => s.enterOpening .crash
  | .precharging => s.enterOpening .crash
  | .posClosing => s.enterOpening .crash
  | .closed => s.enterOpening .crash
  | .deferring => s.enterOpening .crash
  | .opening => s.noteCrash
  | .lockout => s

/-! ## Notices and reference samples (R111, R113, R115, R118, R109) -/

/-- An inhibit notice aborts a closure and has no effect in any other state. -/
def State.inhibitAtSequencer (id : Nat) (s : State) : State :=
  match s.seq.state with
  | .negClosing => s.enterOpening (.inhibit id)
  | .precharging => s.enterOpening (.inhibit id)
  | .posClosing => s.enterOpening (.inhibit id)
  | .opened => s
  | .closed => s
  | .deferring => s
  | .opening => s
  | .lockout => s

/-- A trip notice opens a closing, closed or deferring sequencer. -/
def State.tripAtSequencer (id : Nat) (s : State) : State :=
  match s.seq.state with
  | .negClosing => s.enterOpening (.point id)
  | .precharging => s.enterOpening (.point id)
  | .posClosing => s.enterOpening (.point id)
  | .closed => s.enterOpening (.point id)
  | .deferring => s.enterOpening (.point id)
  | .opened => s
  | .opening => s
  | .lockout => s

/-- R109: the precharge test, with `b` the bus sample and `p` the pack value. -/
def prechargeMet (ratio : Nat) (b p : Int) : Bool := decide ((ratio : Int) * p ≤ 100 * b)

/-- R109: a bus_point sample in PRECHARGING. -/
def State.busSample (v : Int) (s : State) : State :=
  match s.valueOf s.profileOr.packPoint with
  | none => s
  | some p =>
    if prechargeMet s.profileOr.prechargeRatio v p then
      let e := s.sense.time - s.seq.coilInstant
      if e.toNat < 10 * s.profileOr.minPrecharge then s.enterOpening .prechargeFast
      else ({ s with seq := { s.seq with lastPrecharge := some e } }).unlessInhibited State.enterPosClosing
    else s

/-- R102: a reference sample reaches the sequencer: bus_point acts in PRECHARGING, current_point in DEFERRING. -/
def State.referenceAtSequencer (id : Nat) (v : Int) (s : State) : State :=
  match s.seq.state with
  | .precharging => if s.profileOr.busPoint = id then s.busSample v else s
  | .deferring =>
    if s.profileOr.currentPoint = id && breakable s.profileOr.breakLimit (some v) then s.enterOpening .requestedOpen
    else s
  | .opened => s
  | .negClosing => s
  | .posClosing => s
  | .closed => s
  | .opening => s
  | .lockout => s

/-! ## Timer expiries (R108 to R110, R113, R119) -/

/-- Expiry of aux_confirm. -/
def State.auxConfirmExpired (s : State) : State :=
  match s.seq.state with
  | .negClosing => s.enterOpening .auxTimeoutNeg
  | .posClosing => s.enterOpening .auxTimeoutPos
  | _ => s

/-- Expiry of precharge_timeout. -/
def State.prechargeExpired (s : State) : State :=
  match s.seq.state with
  | .precharging => s.enterOpening .prechargeTimeout
  | _ => s

/-- R113: expiry of defer_max; whether the open is loaded is decided by R116 on the value in the Point Table, also where
R113 lets the previous value count: a breakable sample is judged and its reference sample is still to be taken (log 42). -/
def State.deferExpired (s : State) : State :=
  match s.seq.state with
  | .deferring => s.enterOpening .requestedOpen
  | _ => s

/-- R119: the weld check at the expiry of dropout, on the debounced levels of the two auxiliary lines. -/
def State.dropoutExpired (s : State) : State :=
  match s.seq.state with
  | .opening =>
    if s.sense.auxPos.level = some true then s.enterLockout .weldPos
    else if s.sense.auxNeg.level = some true then s.enterLockout .weldNeg
    else if s.seq.context.any (·.crashSeen) then s.enterLockout .crash
    else s.enterOpen
  | _ => s

/-! ## Requests (R106, R111, R112, R114, R122) -/

/-- R106: a commit holding a PROFILE item is VERIFYING, WRITING or APPLYING. -/
def State.profileInFlight (s : State) : Bool := s.engine.state.inFlight && s.stagedProfile?.isSome

def takeClose (s : State) : State × Reply :=
  if s.power.state ≠ .active ∨ s.seq.state ≠ .opened then refuse .state s
  else if s.seq.profile.isNone then refuse .noProfile s
  else if !s.table.inhibitSet.isEmpty then refuse .inhibited s
  else if s.profileInFlight then refuse .busy s
  else (s.enterNegClosing, .now .accepted [])

/-- R112: OPEN in CLOSED; with defer_max 0 the timer expires as it starts (R113). -/
def State.openFromClosed (s : State) : State :=
  if s.currentBreakable then s.enterOpening .requestedOpen
  else if s.profileOr.deferMax = 0 then s.enterDeferring.deferExpired
  else s.enterDeferring

def takeOpen (s : State) : State × Reply :=
  match s.seq.state with
  | .closed => (s.openFromClosed, .now .accepted [])
  | .negClosing => (s.enterOpening .requestedOpen, .now .accepted [])
  | .precharging => (s.enterOpening .requestedOpen, .now .accepted [])
  | .posClosing => (s.enterOpening .requestedOpen, .now .accepted [])
  | .deferring => (s, .now .accepted [])
  | .opening => (s, .now .done [])
  | .opened => (s, .now .done [])
  | .lockout => (s, .now .done [])

def takeTrip (s : State) : State × Reply :=
  match s.seq.state with
  | .negClosing => (s.enterOpening .requestedTrip, .now .accepted [])
  | .precharging => (s.enterOpening .requestedTrip, .now .accepted [])
  | .posClosing => (s.enterOpening .requestedTrip, .now .accepted [])
  | .closed => (s.enterOpening .requestedTrip, .now .accepted [])
  | .deferring => (s.enterOpening .requestedTrip, .now .accepted [])
  | .opened => (s, .now .done [])
  | .opening => (s, .now .done [])
  | .lockout => (s, .now .done [])

/-- R122: CLRLOCK tests the debounced levels: both auxiliary contacts OPEN, CRASH INACTIVE. -/
def takeClrlock (s : State) : State × Reply :=
  if s.seq.state ≠ .lockout then refuse .state s
  else if s.sense.auxNeg.level ≠ some false ∨ s.sense.auxPos.level ≠ some false ∨ s.sense.crash.level ≠ some false then
    refuse .notClear s
  else (s.enterOpen, .now .done [])

/-! ## QCONT (R126) -/

def optWord32 (x : Option Word32) : List Byte :=
  match x with
  | some w => [1] ++ leWord32 w
  | none => List.replicate 5 0

def causeBytes : Option Cause → List Byte
  | some c => le8 c.code ++ le16 c.idField
  | none => [0, 0, 0]

def contextBytes : Option OpeningContext → List Byte
  | some c =>
    [1] ++ causeBytes (some c.firstCause) ++ [boolByte c.crashSeen, boolByte c.negWasOn, boolByte c.posWasOn] ++
      leWord32 c.deEnergizedAt ++ [boolByte c.loaded]
  | none => List.replicate 12 0

def timerBytes (now : Word32) : Option SeqTimer → List Byte
  | some t => le8 t.name.code ++ le32 (t.remaining now)
  | none => List.replicate 5 0

def qcontBody (s : State) : List Byte :=
  le8 s.seq.state.code ++ profileBytes s.seq.profile ++
    leWord32 s.seq.closeNeg ++ leWord32 s.seq.loadedNeg ++ optWord32 s.seq.lastCloseNeg ++ optWord32 s.seq.lastOpenNeg ++
    leWord32 s.seq.closePos ++ leWord32 s.seq.loadedPos ++ optWord32 s.seq.lastClosePos ++ optWord32 s.seq.lastOpenPos ++
    optWord32 s.seq.lastPrecharge ++ causeBytes s.seq.lastCause ++ le8 (lockoutCode s.seq.lockoutCause) ++
    le8 (levelCode s.sense.auxNeg.level) ++ le8 (levelCode s.sense.auxPos.level) ++ le8 (levelCode s.sense.crash.level) ++
    timerBytes s.sense.time s.seq.timer ++ contextBytes s.seq.context

def takeQcont (s : State) : State × Reply := (s.clear .contactor, .now .done (qcontBody s))

end Sys2Proof.Machine
end

