-- ==== Sys2Proof/Machine/Startup.lean ====
section
/-! DEFINITION. The end of a transaction and the tamper event (chapter 9), and the start-up path: the entry to LOADING
after power-on and RESET, the load of the Store, and the building of the blocks (R24, R48, R79, R96, R105, R128,
R157 to R160, R162). -/

namespace Sys2Proof.Machine

/-! ## The end of a transaction (R166, R182) and the tamper event (R180) -/

/-- R166, R182: a transaction ends: IDLE, empty stage, no staged version, the outcome record replaced, UPDATE raised. -/
def State.endTransaction (o : Outcome) (index : Option Nat) (reason : Option InvalidReason) (s : State) : State :=
  ({ s with engine := { s.engine with
      state := .idle, stage := [], version := none, commitTag := none
      outcome := some { outcome := o, version := s.engine.version.getD 0, itemIndex := index, reason := reason } } }).raise
    .update

/-- R180: a transaction in STAGING or VERIFYING ends TAMPERED. -/
def State.endTampered (s : State) : State :=
  match s.engine.state with
  | .staging => s.endTransaction .tampered none none
  | .verifying => s.endTransaction .tampered none none
  | .idle => s
  | .writing => s
  | .applying => s

/-- R180: a tamper event at the Update Engine. -/
def State.tamperAtEngine (s : State) : State :=
  let t := { s with engine := { s.engine with tamperLatch := true, tamperCount := satIncr s.engine.tamperCount } }
  ((t.requestCounterWrite false).raise .tamper).endTampered

/-! ## The entry to LOADING (R128) -/

/-- What entered LOADING: power-on or RESET (R128, R148). -/
inductive StartCause where
  | powerOn
  | reset
  deriving DecidableEq, Repr

def StartCause.causes : StartCause → WakeCauses
  | .powerOn => { WakeCauses.none with powerOn := true }
  | .reset => { WakeCauses.none with reset := true }

/-- R147, R148, R189: the write transaction in progress after a start: none without supply; at a RESET the one it finds,
which stays discarded where its beginning began the RESET, and stays begun where it began while the RESET was held. -/
def StartCause.writeTx (c : StartCause) (tx : WriteTx) : WriteTx :=
  match c with
  | .powerOn => .none
  | .reset => tx

/-- R105: the sequencer built from the snapshot of the counter slot in force. -/
def Sequencer.built (x : CounterSnapshot) : Sequencer :=
  { state := if x.lockoutFlag then .lockout else .opened
    coilInstant := 0, timer := none, profile := none
    closeNeg := x.closeNeg, closePos := x.closePos, loadedNeg := x.loadedNeg, loadedPos := x.loadedPos
    lastCloseNeg := none, lastClosePos := none, lastOpenNeg := none, lastOpenPos := none
    lastPrecharge := none, lastCause := none
    lockoutCause := if x.lockoutFlag then x.lockoutCause else none
    context := none }

/-- R158: the counter slot a load selects. -/
def Store.selectedSlot (x : Store) : Option SlotId := selectCounterSlot (x.counterSlot .caA) (x.counterSlot .caB)

/-- R158: the snapshot of the counter slot a load selects. -/
def Store.selectedSnapshot (x : Store) : CounterSnapshot :=
  match x.selectedSlot with
  | some i => (x.counterSlot i).snapshot
  | none => .reset

/-- R158: its sequence. -/
def Store.selectedSequence (x : Store) : Word32 :=
  match x.selectedSlot with
  | some i => (x.counterSlot i).sequence
  | none => 0

/-- R128, R152, R158: the Store at the entry to LOADING: its areas stand, its arbiter is empty, the counter slot is
selected; the banks and the key copies are selected when the load ends (log 32). -/
def Store.started (x : Store) : Store :=
  { x with
    state0 := .empty, state1 := .empty, activeBank := none, activeVersion := 0
    slotInForce := x.selectedSlot
    sequence := x.selectedSequence
    keyInForce := none
    inFlight := .none, suspended := none, counterPending := false, settlingWaits := false, waiting := none
    failures := 0, findings := .none, ready := false }

/-- The point table before it is built (R193: both sets have size 0 then). -/
def PointTable.blank : PointTable :=
  { points := Vector.replicate 384 .vacant, inhibitSet := [], changedSet := [], notices := [] }

/-- R48, R51, R52, R59, R62, R63: the Frame Clock after power-on and RESET. -/
def FrameClock.started : FrameClock :=
  { active := .blank, waiting := none, number := 0, opened := false, phase := .stopped, timer := none, overruns := 0,
    discoveryPending := false, discoveryRunning := false, given := false, tail := [], tailInFlight := false }

/-- R70, R79, R84: the Chain Controller after power-on and RESET. -/
def Chain.started : Chain :=
  { roster := Vector.replicate 16 .blank, foundCount := 0, expected := 0, extra := false, cause := .start,
    sleepEntryCount := 0, tag := 0, round := none, read := none, enumeration := none, sent := [] }

/-- R93, R96, R89: Pack Sense after power-on and RESET; the lines stand as they were last seen (log 2). -/
def Sense.started (lines : LineLevels) : Sense :=
  { time := 0, lines := lines, auxNeg := .unknown, auxPos := .unknown, crash := .unknown, wake := .unknown,
    lid := .unknown, shunt := none, packConv := none, busConv := none }

/-- R128: the Power Manager at the entry to LOADING. The manual gives the sleep entry frame no value before the first entry
to DEEP_SLEEP; the model holds it absent (log 27). -/
def Power.started (c : StartCause) : Power :=
  { state := .loading, wakeSet := .none, firstPoint := none
    record := { causes := c.causes, firstPoint := none, sleepFrames := 0, entryFrame := none }
    sleepFrame := 0, sleepTimer := none, entryFrame := none, quiet := false, reset := .none }

/-- R162: the Update Engine before the load hands it its tamper state and key (log 32). -/
def Engine.started : Engine :=
  { state := .idle, stage := [], version := none, commitTag := none, outcome := none, tamperLatch := false,
    tamperCount := 0, key := none, finalLock := false }

/-- R128, R190, R191, R125: the entry to LOADING. The attention set becomes POWER, with CONTACTOR for a restored
lockout; the mask holds all eight causes. -/
def State.enterLoading (c : StartCause) (s : State) : State :=
  let snapshot := s.store.selectedSnapshot
  { s with
    port := { s.port with slot := .empty, writeTx := c.writeTx s.port.writeTx }
    table := .blank
    clock := .started
    chain := .started
    sense := .started s.sense.lines
    seq := .built snapshot
    power := .started c
    store := s.store.started
    engine := .started
    attention := { set := { Causes.none with power := true, contactor := snapshot.lockoutFlag }, mask := .all } }

/-! ## Power loss and power-on (R128, R161) -/

/-- R161: the loss of VSUP: the writes are cut and every volatile record is lost. The volatile records then stand as the
next power-on will find them (log 8). -/
def State.losePower (s : State) : State :=
  let t := s.cutWrites.enterLoading .powerOn
  { t with vsup := false, port := { t.port with hsdo := [] }, pins := Pins.off }

/-- R128: VSUP arrives. A part that still has supply has lost it first (log 7). -/
def State.gainPower (s : State) : State := ({ s.losePower with vsup := true }).drive

/-! ## The end of the load (R157 to R160) -/

/-- R157: the active bank among the VALID banks: the higher version, BANK_0 with equal versions. -/
def selectBank (m0 m1 : Memory) : Option BankId :=
  match m0.bankState, m1.bankState with
  | .valid, .valid => if m0.version.toNat < m1.version.toNat then some .bank1 else some .bank0
  | .valid, _ => some .bank0
  | _, .valid => some .bank1
  | _, _ => none

/-- R157: the version of an INTERRUPTED bank; with both INTERRUPTED the manual does not say whose (log 33). -/
def interruptedVersion (choice : Bool) (m0 m1 : Memory) : Option Word32 :=
  match m0.bankState, m1.bankState with
  | .interrupted, .interrupted => some (if choice then m0.version else m1.version)
  | .interrupted, _ => some m0.version
  | _, .interrupted => some m1.version
  | _, _ => none

def KeyCopy.isBad : KeyCopy → Bool
  | .bad => true
  | .erased => false
  | .valid _ _ => false

/-- R157 to R160: what the Store selects and finds. -/
def Store.loaded (x : Store) : Store :=
  let b0 := x.bank0.bankState
  let b1 := x.bank1.bankState
  let bank := selectBank x.bank0 x.bank1
  let key := selectKeyCopy (x.keyCopy .copyA) (x.keyCopy .copyB)
  { x with
    state0 := b0, state1 := b1, activeBank := bank
    activeVersion := match bank with
      | some .bank0 => x.bank0.version
      | some .bank1 => x.bank1.version
      | none => 0
    keyInForce := key
    findings :=
      { blank := bank.isNone
        bankDamaged := b0 == .damaged || b1 == .damaged
        bankInterrupted := b0 == .interrupted || b1 == .interrupted
        countersReset := x.selectedSlot.isNone
        keyReset := key.isNone && ((x.keyCopy .copyA).isBad || (x.keyCopy .copyB).isBad) }
    ready := true }

def Findings.isEmpty (f : Findings) : Bool :=
  !(f.blank || f.bankDamaged || f.bankInterrupted || f.countersReset || f.keyReset)

/-- R24: the record an id is built with. -/
def builtPoint : Option Definition → Point
  | some d => .live d (.fresh false) none
  | none => .vacant

/-- R24: the inhibit set derived at start-up; its entries send no notice. -/
def State.deriveInhibits (s : State) : State :=
  { s with table := { s.table with inhibitSet := idsWhere (fun id => (s.point id).inhibits) } }

/-- R24, R44, R48, R101, R162: the blocks are built from what the Store selected; the changed-point set starts empty. -/
def State.build (s : State) : State :=
  let image := s.activeImage
  let snapshot := s.store.selectedSnapshot
  let key := s.keyRecordInForce
  let t := { s with
    table := { PointTable.blank with points := image.points.map builtPoint }
    clock := { s.clock with active := image.frame }
    seq := { s.seq with profile := image.profile }
    engine := { s.engine with
      outcome := (interruptedVersion s.freeChoice s.store.bank0 s.store.bank1).map (fun v =>
        { outcome := .powerLost, version := v, itemIndex := none, reason := none })
      tamperLatch := snapshot.tamperLatch
      tamperCount := snapshot.tamperCount
      key := key.key
      finalLock := key.finalLock } }
  t.deriveInhibits.setChanged []

/-- R160: the Store reports the end of its selection: findings, STORE and UPDATE as required, the blocks built. -/
def State.endLoad (s : State) : State :=
  let t := ({ s with store := s.store.loaded }).build.nextChoice
  (t.raiseIf (!t.store.findings.isEmpty) .store).raiseIf t.store.findings.bankInterrupted .update

end Sys2Proof.Machine
end

