-- ==== Sys2Proof/Machine/Application.lean ====
section
/-! DEFINITION. What a frame start applies to the records: pending parts (R14 to R16), pending frame parameters (R56) and
the items of a commit in APPLYING (R176 to R178). -/

namespace Sys2Proof.Machine

/-! ## The Point Table's own applications (R14 to R16) -/

/-- R11: amended is yes when the active bank stores another definition, or none. -/
def State.amendedFrom (s : State) (id : Nat) (d : Definition) : Bool := s.storedDefinition id != some d

/-- R14 to R16: what a frame start makes of one record. -/
def State.applyPoint (id : Nat) (s : State) : State :=
  match s.point id with
  | .enlisting d => s.setPoint id (.live d (.fresh (s.amendedFrom id d)) none)
  | .live d l (some (.fields c)) =>
    let d' := c.applyTo d
    s.setPoint id
      (.live d' { l with excursion := min l.excursion d'.persistence, amended := s.amendedFrom id d' } none)
  | .live _ _ (some .retire) => s.vacate id
  | .live _ _ none => s
  | .vacant => s

def State.applyPoints (s : State) : State := tableIds.foldl (fun t id => t.applyPoint id) s

/-- R56: a pending record becomes active; monitor_count is kept. -/
def State.applyParams (s : State) : State :=
  match s.clock.waiting with
  | some p =>
    { s with clock := { s.clock with
        active :=
          { s.clock.active with
            frameLength := p.frameLength, slotCount := p.slotCount, sleepPeriod := p.sleepPeriod }
        waiting := none } }
  | none => s

/-! ## The items of a commit (R176, R177) -/

/-- R176: a GROUP item reaches the GUARDED points of its kind whose monitor lies in its range. -/
def GroupItem.reaches (g : GroupItem) (d : Definition) : Bool :=
  d.guard == .guarded && d.kind == g.kind && d.monitor.any (between g.first g.last)

def GroupItem.applyTo (g : GroupItem) (d : Definition) : Definition :=
  { d with limits := g.limits, hysteresis := g.hysteresis, persistence := g.persistence }

/-- The same ids in any order. -/
def sameIds (x y : List Nat) : Bool := x.length == y.length && x.all y.contains && y.all x.contains

/-- R177: the source is the same. -/
def Definition.sameSource (d e : Definition) : Bool :=
  d.kind == e.kind &&
    (if d.kind.isCell then d.monitor == e.monitor && d.channel == e.channel
      else if d.kind.isAggregate then sameIds d.members e.members
      else true)

/-- R177: the live part with the same source. -/
def Live.kept (l : Live) : Live := { l with excursion := 0, amended := false }

/-- R177: the live part of a point an item reaches. -/
def Live.reached (sameSource : Bool) (l : Live) : Live := if sameSource then l.kept else .fresh false

/-- R176: a POINT item. -/
def State.applyPointItem (id : Nat) (d : Definition) (s : State) : State :=
  match s.point id with
  | .live old l _ => s.setPoint id (.live d (l.reached (old.sameSource d)) none)
  | .vacant => s.setPoint id (.live d (.fresh false) none)
  | .enlisting _ => s.setPoint id (.live d (.fresh false) none)

/-- R176: a GROUP item at one record. -/
def State.applyGroupAt (g : GroupItem) (id : Nat) (s : State) : State :=
  match s.point id with
  | .live d l _ => if g.reaches d then s.setPoint id (.live (g.applyTo d) l.kept none) else s
  | .vacant => s
  | .enlisting _ => s

/-- R176: the live effect of one item. -/
def State.applyItem (x : Item) (s : State) : State :=
  match x with
  | .point id d => s.applyPointItem id d
  | .remove id => s.vacate id
  | .group g => tableIds.foldl (fun t id => t.applyGroupAt g id) s
  | .profile p => { s with seq := { s.seq with profile := some p } }
  | .frame f => { s with clock := { s.clock with active := f } }

/-- R174, R176, R178: a commit in APPLYING is applied in stage order and ends APPLIED; the inhibit set follows with the
other applications of the frame start (log 16). -/
def State.applyCommit (s : State) : State :=
  match s.engine.state with
  | .applying => (s.engine.stage.foldl (fun t x => t.applyItem x) s).endTransaction .applied none none
  | .idle => s
  | .staging => s
  | .verifying => s
  | .writing => s

/-! ## The applications read on an image (R171, R173) -/

def Image.setPoint (i : Image) (id : Nat) (d : Option Definition) : Image :=
  { i with points := i.points.setIfInBounds id d }

def Image.point (i : Image) (id : Nat) : Option Definition := (i.points[id]?).getD none

/-- R171: one item applied to stored definitions. -/
def Image.applyItem (i : Image) : Item → Image
  | .point id d => i.setPoint id (some d)
  | .remove id => i.setPoint id none
  | .group g => { i with points := i.points.map (fun x => x.map (fun d => if g.reaches d then g.applyTo d else d)) }
  | .profile p => { i with profile := some p }
  | .frame f => { i with frame := f }

def Image.applyAll (i : Image) (items : List Item) : Image := items.foldl Image.applyItem i

/-- R171, R173: the resulting image: the image of the active bank with the stage applied. -/
def State.resultingImage (s : State) : Image := s.activeImage.applyAll s.engine.stage

end Sys2Proof.Machine
end

