-- ==== Sys2Proof/Machine/Judgement.lean ====
section
/-! DEFINITION. Chapter 2: the judgement of samples, missed samples, aggregates, spot completions and the changes of
condition with their consequences. -/

namespace Sys2Proof.Machine

/-! ## Limits in judgement (R27, R29) -/

def Limits.beyondHigh (l : Limits) (v : Int) : Bool := l.highTrip.any (fun h => decide (h < v))
def Limits.beyondLow (l : Limits) (v : Int) : Bool := l.lowTrip.any (fun h => decide (v < h))

/-- R27: a value equal to a trip limit is not beyond it. -/
def Limits.beyond (l : Limits) (v : Int) : Bool := l.beyondHigh v || l.beyondLow v

/-- R29: the effective warn limits. -/
def Limits.effectiveHigh (l : Limits) : Option Int := l.highWarn.or l.highTrip
def Limits.effectiveLow (l : Limits) : Option Int := l.lowWarn.or l.lowTrip

/-- R29: outside the warn band; a value equal to an effective limit lies inside. -/
def Limits.outsideWarn (l : Limits) (v : Int) : Bool :=
  l.effectiveHigh.any (fun h => decide (h < v)) || l.effectiveLow.any (fun h => decide (v < h))

/-- R29: inside the warn band by the hysteresis margin, each half tested only where its limit exists. -/
def Limits.insideByMargin (l : Limits) (hysteresis : Nat) (v : Int) : Bool :=
  l.effectiveHigh.all (fun h => decide (v ≤ h - hysteresis)) && l.effectiveLow.all (fun h => decide (h + hysteresis ≤ v))

/-- R27: the excursion count after a valid sample. -/
def nextExcursion (d : Definition) (excursion : Nat) (v : Int) : Nat :=
  if d.limits.beyond v then min (excursion + 1) d.persistence else 0

/-- R28, R29: the condition after a valid sample, with the excursion count already brought up to date. -/
def judgedCondition (d : Definition) (c : Condition) (excursion : Nat) (v : Int) : Condition :=
  if c = .tripped then .tripped
  else if d.limits.beyond v && excursion == d.persistence then .tripped
  else if d.limits.outsideWarn v then .warn
  else if c = .warn && !d.limits.insideByMargin d.hysteresis v then .warn
  else .normal

/-- R28: the trip cause of a sample that trips. -/
def limitCause (d : Definition) (v : Int) : TripCause := if d.limits.beyondHigh v then .limitHigh else .limitLow

/-- R26: the live part after a valid scheduled sample of frame `n`. -/
def Live.judged (d : Definition) (l : Live) (v : Int) (n : Word32) : Live :=
  let e := nextExcursion d l.excursion v
  let c := judgedCondition d l.condition e v
  { l with
    sample := some { value := v, frame := n }
    missed := 0
    excursion := e
    condition := c
    tripCause := if c = .tripped then (if l.condition = .tripped then l.tripCause else some (limitCause d v)) else none }

/-- R30, R31: the live part after a missed sample. -/
def Live.afterMiss (d : Definition) (l : Live) : Live :=
  let m := min (l.missed + 1) 3
  if l.missed = 2 && l.condition != .tripped then
    if d.staleTrips then { l with missed := m, condition := .tripped, tripCause := some .stale }
    else { l with missed := m, condition := .stale, excursion := 0 }
  else { l with missed := m }

/-! ## Changes of condition (R36) and their consequences -/

/-- R41: the entry of a point with OPEN into TRIPPED sends a trip notice, after the inhibit notice of the same event. -/
def State.noticeTrip (id : Nat) (d : Definition) (entered : Condition) (s : State) : State :=
  if d.actions.opens && entered == .tripped then s.sendNotice (.trip id) else s

/-- R43: a change of condition of a point with REPORT joins the changed-point set. -/
def State.report (id : Nat) (d : Definition) (s : State) : State :=
  if d.actions.report then s.addChanged id else s

/-- R142: a wake notice adds POINT, and the first one fixes first_point. -/
def State.takeWakeNotice (id : Nat) (s : State) : State :=
  let t := s.addWake .point
  { t with power := { t.power with firstPoint := t.power.firstPoint.or (some id) } }

/-- R47: during a sleep frame a kept point with WAKE that changes to WARN, TRIPPED or STALE sends a wake notice. -/
def State.noticeWake (id : Nat) (d : Definition) (entered : Condition) (s : State) : State :=
  if s.power.state == .sleepFrame && d.sleepDivider.isSome && d.actions.wakes &&
      (entered == .warn || entered == .tripped || entered == .stale) then s.takeWakeNotice id
  else s

/-- R36: the consequences of a change of condition of a LIVE point, named by the condition entered. -/
def State.conditionChanged (id : Nat) (d : Definition) (entered : Condition) (s : State) : State :=
  (((s.refreshInhibit id).noticeTrip id d entered).report id d).noticeWake id d entered

/-- R36: a new live part is written, and if the condition differs the consequences follow. -/
def State.setLive (id : Nat) (d : Definition) (l l' : Live) (p : Option PendingPart) (s : State) : State :=
  let t := s.setPoint id (.live d l' p)
  if l'.condition = l.condition then t else t.conditionChanged id d l'.condition

/-- R102: a valid sample of the profile's bus_point or current_point is handed to the sequencer, after its judgement. -/
def State.handReference (id : Nat) (v : Int) (s : State) : State :=
  match s.seq.profile with
  | some p => if p.busPoint = id ∨ p.currentPoint = id then s.sendNotice (.reference id v) else s
  | none => s

/-- R26: a valid scheduled sample arrives for a point; for an id that is not LIVE it is discarded (R16). -/
def State.sample (id : Nat) (v : Int) (s : State) : State :=
  match s.point id with
  | .live d l p => (s.setLive id d l (l.judged d v s.clock.number) p).handReference id v
  | .vacant => s
  | .enlisting _ => s

/-- R30: a missed-sample notice arrives for a point; for an ENLISTING or VACANT id it is discarded. -/
def State.miss (id : Nat) (s : State) : State :=
  match s.point id with
  | .live d l p => s.setLive id d l (l.afterMiss d) p
  | .vacant => s
  | .enlisting _ => s

/-- Samples or missed samples for several points, in the order given (ascending id everywhere). -/
def State.missAll (ids : List Nat) (s : State) : State := ids.foldl (fun t id => t.miss id) s

def State.sampleAll (ids : List Nat) (v : Int) (s : State) : State := ids.foldl (fun t id => t.sample id v) s

/-! ## Aggregates (R33, R34) -/

/-- R33: the value a member contributes; none when it is IDLE or STALE or has no value. -/
def Point.memberValue? : Point → Option Int
  | .live _ l _ => if l.condition == .idle || l.condition == .stale then none else l.sample.map (·.value)
  | .vacant => none
  | .enlisting _ => none

/-- The values of all members, or none when one of them contributes none. -/
def State.memberValues (s : State) : List Nat → Option (List Int)
  | [] => some []
  | m :: ms =>
    match (s.point m).memberValue?, s.memberValues ms with
    | some v, some vs => some (v :: vs)
    | _, _ => none

def greatest : List Int → Option Int
  | [] => none
  | v :: vs => some (vs.foldl max v)

def least : List Int → Option Int
  | [] => none
  | v :: vs => some (vs.foldl min v)

/-- R33: the value of an aggregate of this kind over these members. -/
def State.aggregateValue (s : State) (k : Kind) (members : List Nat) : Option Int :=
  match s.memberValues members with
  | none => none
  | some vs =>
    match k with
    | .aggMax => greatest vs
    | .aggMin => least vs
    | .aggSpread => (greatest vs).bind (fun g => (least vs).map (fun l => g - l))
    | .cellV => none
    | .cellT => none
    | .packI => none
    | .packV => none
    | .busV => none

/-- R33: a due aggregate is judged, or takes a missed sample. -/
def State.judgeAggregate (id : Nat) (s : State) : State :=
  match (s.point id).liveDefinition? with
  | some d =>
    match s.aggregateValue d.kind d.members with
    | some v => s.sample id v
    | none => s.miss id
  | none => s

def State.judgeAggregates (ids : List Nat) (s : State) : State := ids.foldl (fun t id => t.judgeAggregate id) s

/-- R54: due in frame `n` by the divider. -/
def Definition.dueIn (d : Definition) (n : Word32) : Bool := n.toNat % d.divider == 0

/-- R137: due in sleep frame `m` by the sleep divider; a point without a sleep part is never due. -/
def Definition.sleepDueIn (d : Definition) (m : Word32) : Bool := d.sleepDivider.any (fun k => m.toNat % k == 0)

/-- R33: the aggregates due in the frame in progress. -/
def State.dueAggregates (s : State) : List Nat :=
  s.liveIds (fun d => d.kind.isAggregate && d.dueIn s.clock.number)

/-- R141: the kept aggregates due in the sleep frame in progress. -/
def State.dueSleepAggregates (s : State) : List Nat :=
  s.liveIds (fun d => d.kind.isAggregate && d.sleepDueIn s.power.sleepFrame)

/-! ## Spot values (R35) -/

/-- R35: a SPOT item completes: the spot record is replaced and the id joins the changed-point set. -/
def State.completeSpot (id : Nat) (v : Option Int) (s : State) : State :=
  match s.point id with
  | .live d l p =>
    let spot : Spot := { value := v, frame := s.clock.number, outcome := if v.isSome then .ok else .failed }
    (s.setPoint id (.live d { l with spot := some spot } p)).addChanged id
  | .vacant => s
  | .enlisting _ => s

/-! ## Release (R37, R38) -/

/-- R37: the clear test of a TRIPPED point. -/
def clearTest (d : Definition) (l : Live) : Bool :=
  match l.tripCause with
  | some .stale => l.missed == 0
  | _ =>
    match l.sample with
    | none => false
    | some x =>
      d.limits.highTrip.all (fun h => decide (x.value ≤ h - d.hysteresis)) &&
        d.limits.lowTrip.all (fun h => decide (h + d.hysteresis ≤ x.value))

/-- R38: the condition a released point enters; the hysteresis margin is not applied. -/
def releasedCondition (d : Definition) (l : Live) : Condition :=
  match l.sample with
  | some x => if d.limits.outsideWarn x.value then .warn else .normal
  | none => .normal

def Live.released (d : Definition) (l : Live) : Live :=
  { l with excursion := 0, tripCause := none, condition := releasedCondition d l }

end Sys2Proof.Machine
end

