-- ==== Sys2Proof/Machine/Ring.lean ====
section
/-! DEFINITION. Chapters 4 and 5: the roster, the reads and their checks, the read queue of a round, the converters'
captures and the enumerations, as the Frame Clock and the Power Manager use them. -/

namespace Sys2Proof.Machine

/-! ## The roster (4.3) -/

/-- The entry of a chain address; an address above 15 names none, and reads as ABSENT. -/
def State.entry (s : State) (a : Nat) : RosterEntry := (s.chain.roster[a]?).getD .blank

def State.setEntry (a : Nat) (e : RosterEntry) (s : State) : State :=
  { s with chain := { s.chain with roster := s.chain.roster.setIfInBounds a e } }

/-- 4.3: PRESENT and FAULTED monitors are read. -/
def MonitorState.readable : MonitorState → Bool
  | .present => true
  | .faulted => true
  | .absent => false
  | .missing => false

def State.readable (s : State) (a : Nat) : Bool := (s.entry a).state.readable

/-- R75: a set fault bit makes a PRESENT monitor FAULTED and raises CHAIN. -/
def State.takeFaultBit (a : Nat) (fault : Bool) (s : State) : State :=
  if fault && (s.entry a).state == .present then (s.setEntry a { s.entry a with state := .faulted }).raise .chain
  else s

/-- R74: every failed attempt writes its kind into last_failure. -/
def State.noteFailure (a : Nat) (k : FailureKind) (s : State) : State :=
  s.setEntry a { s.entry a with lastFailure := some k }

/-- R74: every read that ends FAILED counts. -/
def State.countFailedRead (a : Nat) (s : State) : State :=
  s.setEntry a { s.entry a with failedReads := satIncr (s.entry a).failedReads }

/-- R77: one monitor's count at the end of a round. -/
def State.countMonitor (r : Round) (s : State) (a : Nat) : State :=
  let e := s.entry a
  if r.failed.contains a then
    if 3 ≤ e.consecutiveFailed + 1 then
      (s.setEntry a { e with consecutiveFailed := 3, state := .missing }).raise .chain
    else s.setEntry a { e with consecutiveFailed := e.consecutiveFailed + 1 }
  else if r.accepted.contains a then s.setEntry a { e with consecutiveFailed := 0 }
  else s

/-- R77: a round is counted for every monitor that had an entry in it. -/
def State.countRound (r : Round) (s : State) : State := r.monitors.foldl (fun t a => t.countMonitor r a) s

/-! ## Down messages (R70, R71, R80, R84) -/

/-- R70: CONVERT carries the next tag, which becomes the current one. -/
def State.convert (s : State) : State :=
  ({ s with chain := { s.chain with tag := s.chain.tag + 1 } }).sendDown (convertMessage (s.chain.tag + 1))

/-- R71: an attempt begins. -/
def State.sendRead (r : Read) (s : State) : State :=
  ({ s with chain := { s.chain with read := some r } }).sendDown (readMessage r.address r.block r.clear)

/-- R76: a read in flight is abandoned. -/
def State.abandonRead (s : State) : State := { s with chain := { s.chain with read := none } }

/-- R80, R85: an enumeration begins with WAKE_ALL. -/
def State.startEnumeration (p : EnumPurpose) (s : State) : State :=
  ({ s with chain := { s.chain with
      enumeration := some { purpose := p, listening := false, counting := true, found := 0 } } }).sendDown wakeAllMessage

/-- R62, R82: a discovery starts. The running flag is set for every discovery (log 29); the pending flag is cleared. -/
def State.startDiscovery (c : DiscoveryCause) (s : State) : State :=
  ({ s with clock := { s.clock with discoveryRunning := true, discoveryPending := false } }).startEnumeration
    (.discovery c s.clock.active.monitorCount)

/-! ## Checking a reply (R71, R72, R75, 11.6, R198) -/

def Block.words : Block → Nat
  | .cells => 16
  | .temps => 4
  | .status => 2

/-- R71: the header CRC-8 of an up message: byte 5 of a BLOCK_REPLY, byte 2 of an ENUM_REPLY, the last byte of a message of
another type (log 18). -/
def headerGood (m : List Byte) : Bool :=
  if u8 m 0 = 0x85 then decide (6 ≤ m.length) && crc8 (m.take 5) == m.getD 5 0
  else if u8 m 0 = 0x81 then decide (3 ≤ m.length) && crc8 (m.take 2) == m.getD 2 0
  else decide (2 ≤ m.length) && crc8 m.dropLast == m.getLastD 0

/-- R71: the data words and their CRC-16. A reply whose length is not that of its block has no such words and counts as
failing this check, a case that no check of the manual names (log 18). -/
def dataGood (b : Block) (m : List Byte) : Bool :=
  m.length == 8 + 2 * b.words && leWord16 (crc16 ((m.drop 6).take (2 * b.words))) == m.drop (6 + 2 * b.words)

def dataWords (b : Block) (m : List Byte) : List Nat := (List.range b.words).map (fun i => u16 m (6 + 2 * i))

/-- What the checks of R71 find in a reply; a reply whose header passes the first two carries the fault bit (R75). -/
inductive ReplyCheck where
  | badHeader
  | mismatch
  | failed (kind : FailureKind) (fault : Bool)
  | good (fault : Bool) (words : List Nat)
  deriving DecidableEq, Repr

def checkReply (r : Read) (tag : Byte) (m : List Byte) : ReplyCheck :=
  if !headerGood m then .badHeader
  else if u8 m 0 ≠ 0x85 ∨ u8 m 1 ≠ r.address ∨ u8 m 2 ≠ r.block.code then .mismatch
  else
    let fault := (m.getD 4 0).getLsbD 0
    if r.block ≠ .status ∧ m.getD 3 0 ≠ tag then .failed .tagStale fault
    else if !dataGood r.block m then .failed .dataBad fault
    else .good fault (dataWords r.block m)

def ReplyCheck.fault : ReplyCheck → Bool
  | .badHeader => false
  | .mismatch => false
  | .failed _ f => f
  | .good f _ => f

/-- R73: the value of a channel word; an invalid channel value is none. -/
def channelValue (b : Block) (w : Nat) : Option Int :=
  match b with
  | .cells => if w ≤ 50000 then some (w : Int) else none
  | .temps => let v := (BitVec.ofNat 16 w).toInt; if -400 ≤ v ∧ v ≤ 1500 then some v else none
  | .status => none

/-! ## The points of a round and its read queue (R57, R58, R78) -/

def Kind.block? : Kind → Option Block
  | .cellV => some .cells
  | .cellT => some .temps
  | .packI => none
  | .packV => none
  | .busV => none
  | .aggMax => none
  | .aggMin => none
  | .aggSpread => none

/-- R58: the monitor and block a chain point needs. -/
def Definition.readEntry? (d : Definition) : Option (Nat × Block) :=
  match d.kind.block?, d.monitor with
  | some b, some a => some (a, b)
  | _, _ => none

def State.readEntry? (s : State) (id : Nat) : Option (Nat × Block) :=
  (s.point id).liveDefinition?.bind Definition.readEntry?

/-- The points among `ids` that depend on one of these entries. -/
def State.dependents (s : State) (entries : List (Nat × Block)) (ids : List Nat) : List Nat :=
  ids.filter (fun id => (s.readEntry? id).any entries.contains)

def allEntries : List (Nat × Block) :=
  (List.range 16).flatMap (fun a => [(a, Block.cells), (a, Block.temps)])

/-- R58: the read queue over the monitors that can be read, CELLS before TEMPS in ascending address. -/
def State.readQueue (s : State) (ids : List Nat) (reach : Nat → Bool) : List (Nat × Block) :=
  allEntries.filter (fun e => reach e.1 && ids.any (fun id => s.readEntry? id == some e))

/-- R71: the READ of a round's entry. -/
def roundRead (e : Nat × Block) : Read :=
  { address := e.1, block := e.2, clear := false, second := false, owner := .round }

/-- R57, R78, R140: the chain points of a round. Those whose monitor cannot be read miss; if an entry remains, CONVERT is
broadcast and the head entry is read. -/
def State.beginRound (inSleep : Bool) (ids : List Nat) (reach : Nat → Bool) (s : State) : State :=
  let queue := s.readQueue ids reach
  let t := s.missAll (ids.filter (fun id => (s.readEntry? id).any (fun e => !reach e.1)))
  match queue with
  | [] => t
  | head :: _ =>
    let round : Round :=
      { inSleep := inSleep, points := ids, monitors := (List.range 16).filter (fun a => queue.any (fun e => e.1 == a))
        queue := queue, failed := [], accepted := [] }
    ({ t with chain := { t.chain with round := some round } }).convert.sendRead (roundRead head)

/-! ## The converters (5.1) -/

def Kind.converter? : Kind → Option Converter
  | .packI => some .shuntCurrent
  | .packV => some .packVoltage
  | .busV => some .busVoltage
  | .cellV => none
  | .cellT => none
  | .aggMax => none
  | .aggMin => none
  | .aggSpread => none

def State.capture? (s : State) : Converter → Option Capture
  | .shuntCurrent => s.sense.shunt
  | .packVoltage => s.sense.packConv
  | .busVoltage => s.sense.busConv

def State.setCapture (c : Converter) (x : Option Capture) (s : State) : State :=
  match c with
  | .shuntCurrent => { s with sense := { s.sense with shunt := x } }
  | .packVoltage => { s with sense := { s.sense with packConv := x } }
  | .busVoltage => { s with sense := { s.sense with busConv := x } }

def State.converter? (s : State) (id : Nat) : Option Converter :=
  (s.point id).liveDefinition?.bind (fun d => d.kind.converter?)

/-- R90, R92: at the start of a round a converter captures when it serves a point of the round. -/
def State.captureFor (ids : List Nat) (c : Converter) (s : State) : State :=
  match ids.filter (fun id => s.converter? id == some c) with
  | [] => s
  | mine => s.setCapture c (some { ids := mine, spot := none })

def State.captureRound (ids : List Nat) (s : State) : State :=
  ((s.captureFor ids .shuntCurrent).captureFor ids .packVoltage).captureFor ids .busVoltage

/-- R92: a SPOT item captures its converter. A capture that a round has begun there, at the same instant or up to 40 µs
before, and that is not delivered yet, serves both: the SPOT item then takes that reading (log 36). -/
def State.captureSpot (id : Nat) (c : Converter) (s : State) : State :=
  match s.capture? c with
  | some x => s.setCapture c (some { x with spot := some id })
  | none => s.setCapture c (some { ids := [], spot := some id })

/-- R66, R89: the cut of a SPOT item abandons its capture; a round's points keep theirs. -/
def Capture.withoutSpot (x : Capture) : Option Capture :=
  match x.ids with
  | [] => none
  | _ :: _ => some { x with spot := none }

def State.dropSpotCaptures (s : State) : State :=
  { s with sense := { s.sense with
      shunt := s.sense.shunt.bind Capture.withoutSpot
      packConv := s.sense.packConv.bind Capture.withoutSpot
      busConv := s.sense.busConv.bind Capture.withoutSpot } }

/-- R67, R89: the stop of frames abandons every capture (log 26). -/
def State.dropCaptures (s : State) : State :=
  { s with sense := { s.sense with shunt := none, packConv := none, busConv := none } }

/-- 5.1: the ends of a converter's range, its saturated readings. -/
def converterEnds : Converter → Int × Int
  | .shuntCurrent => (-20480, 20479)
  | .packVoltage => (-512, 12287)
  | .busVoltage => (-512, 12287)

def converterKind : Converter → Kind
  | .shuntCurrent => .packI
  | .packVoltage => .packV
  | .busVoltage => .busV

/-- R88: a saturated reading carries no value; a valid one is clamped into the kind's range. A reading beyond the
converter's range counts as saturated (log 31). -/
def convertedValue (c : Converter) (reading : Int) : Option Int :=
  if reading ≤ (converterEnds c).1 ∨ (converterEnds c).2 ≤ reading then none
  else some (max (converterKind c).range.1 (min (converterKind c).range.2 reading))

end Sys2Proof.Machine
end

