-- ==== Sys2Proof/Machine/Clock.lean ====
section
/-! DEFINITION. Chapter 3: frames, slots, rounds and the tail, as the Frame Clock moves through them; and the quiet point
of SETTLING (R132) that a stop of frames may reach. -/

namespace Sys2Proof.Machine

def State.setPhase (p : ClockPhase) (s : State) : State := { s with clock := { s.clock with phase := p } }

/-- R53: the instant of slot `k` after its frame start, in units of 10 µs, rounded to the nearest with halves up. -/
def slotInstant (frameLength slotCount k : Nat) : Nat := (200 * k * frameLength + slotCount) / (2 * slotCount)

/-! ## Stopping (R67, R132) -/

/-- R132: at the quiet point, with frames stopped and no discovery running, SETTLING requests its counter write, once. -/
def State.quietCheck (s : State) : State :=
  if s.power.state = .settling ∧ s.clock.phase = .stopped ∧ s.clock.discoveryRunning = false ∧ s.power.quiet = false then
    ({ s with power := { s.power with quiet := true } }).requestCounterWrite true
  else s

/-- R67: frames stop: the tail queue is discarded without completion, an item in flight and every capture abandoned. -/
def State.stopFrames (s : State) : State :=
  ({ s with clock := { s.clock with phase := .stopped, timer := none, tail := [], tailInFlight := false } }).dropCaptures.abandonRead.quietCheck

/-! ## The tail (R65, R66) -/

/-- The service of an item: it is now in flight, or it has completed at its service start. -/
inductive Service where
  | inFlight (s : State)
  | completed (s : State)

/-- R65: the service of a SPOT item of a LIVE point. -/
def State.serveSpot (id : Nat) (d : Definition) (s : State) : Service :=
  match d.kind.converter?, d.readEntry? with
  | some c, _ => .inFlight (s.captureSpot id c)
  | none, some e =>
    if s.readable e.1 then
      .inFlight (s.convert.sendRead { address := e.1, block := e.2, clear := false, second := false, owner := .spot id })
    else .completed (s.completeSpot id none)
  | none, none => .completed (s.completeSpot id (s.aggregateValue d.kind d.members))

/-- R83: the service of an MSTAT item; with no monitor to read it completes at once, raising CHAIN. -/
def State.serveMstat (monitor : Nat) (clear : Bool) (s : State) : Service :=
  if s.readable monitor then
    .inFlight (s.sendRead { address := monitor, block := .status, clear := clear, second := false, owner := .mstat })
  else .completed (s.raise .chain)

/-- R65: the service of an item; a SPOT item of a point that is not LIVE has left the queue (R16). -/
def State.serve (x : TailItem) (s : State) : Service :=
  match x with
  | .spot id =>
    match (s.point id).liveDefinition? with
    | some d => s.serveSpot id d
    | none => .completed s
  | .mstat m c => s.serveMstat m c

/-- R65: the tail may serve its head. -/
def State.tailFree (s : State) : Bool :=
  s.clock.phase == .tail && !s.clock.discoveryRunning && !s.clock.tailInFlight

def State.setTailInFlight (b : Bool) (s : State) : State := { s with clock := { s.clock with tailInFlight := b } }

/-- R63: the head item leaves the queue at its completion. -/
def State.popTail (s : State) : State :=
  { s with clock := { s.clock with tail := s.clock.tail.tail, tailInFlight := false } }

/-- R65: at most `n` items are served one after another, until one is in flight. -/
def State.serveTail : Nat → State → State
  | 0, s => s
  | n + 1, s =>
    match s.clock.tail with
    | [] => s
    | x :: _ =>
      if s.tailFree then
        match s.serve x with
        | .inFlight t => t.setTailInFlight true
        | .completed t => State.serveTail n t.popTail
      else s

def State.runTail (s : State) : State := s.serveTail s.clock.tail.length

/-- R65: the item in flight has completed; the next head is served. -/
def State.tailCompleted (s : State) : State := s.popTail.runTail

/-- R66: a frame start cuts the item in flight, which stays at the head. -/
def State.cutTail (s : State) : State :=
  if s.clock.tailInFlight then (s.setTailInFlight false).abandonRead.dropSpotCaptures else s

/-! ## Rounds (R57 to R60) -/

/-- R60: the frame close by an ordinary round end: aggregates, then the tail, or the stop of frames in SETTLING. -/
def State.frameClose (s : State) : State :=
  let t := s.judgeAggregates s.dueAggregates
  if t.power.state = .settling then t.stopFrames else (t.setPhase .tail).runTail

/-- R51, R60: the round of slot `k` has ended. -/
def State.roundEnded (k : Nat) (s : State) : State :=
  if s.clock.active.slotCount ≤ k + 1 then s.frameClose else s.setPhase (.slot k false)

/-- R57: the points of the round of slot `k`. -/
def State.slotPoints (s : State) (k : Nat) : List Nat :=
  s.liveIds (fun d => !d.kind.isAggregate && d.slot == some k && d.dueIn s.clock.number)

/-- R57: the start of slot `k`. -/
def State.startSlot (k : Nat) (s : State) : State :=
  let ids := s.slotPoints k
  let chainIds := ids.filter (fun id => (s.readEntry? id).isSome)
  let t := (s.setPhase (.slot k true)).captureRound ids
  let u := if t.clock.given then t.missAll chainIds else t.beginRound false chainIds t.readable
  if u.chain.round.isSome then u else u.roundEnded k

/-- R59, R76, R77: the overrun: the read and the entries are dropped, their points miss, the round is counted. -/
def State.overrun (s : State) : State :=
  match s.chain.round with
  | none => s
  | some r =>
    let t := ({ s with chain := { s.chain with round := none, read := none } }).missAll (s.dependents r.queue r.points)
    (({ t with clock := { t.clock with overruns := satIncr t.clock.overruns } }).raise .frame).countRound r

/-! ## The frame start (R55) -/

/-- R52: the number of the frame that a frame start opens. -/
def FrameClock.nextNumber (c : FrameClock) : Word32 := if c.opened then c.number + 1 else 0

def State.openNumber (s : State) : State :=
  { s with clock := { s.clock with
      number := s.clock.nextNumber, opened := true, timer := some s.clock.active.frameLength } }

/-- R62: whether the new frame is given to discovery. -/
def State.decideDiscovery (s : State) : State :=
  if s.clock.discoveryRunning then { s with clock := { s.clock with given := true } }
  else if s.clock.discoveryPending then
    ({ s with clock := { s.clock with given := true } }).startDiscovery .request
  else { s with clock := { s.clock with given := false } }

/-- R55, steps 1 to 6: the next frame is opened. -/
def State.openFrame (s : State) : State :=
  (s.applyParams.applyPoints.applyCommit.refreshAllInhibits.openNumber.decideDiscovery).startSlot 0

/-- R55, R60: a frame start ends the frame it finds open: the overrun of the last slot's round with the aggregates judged
at that abandonment, or the cut of the tail item in flight. -/
def State.endFrame (s : State) : State :=
  match s.clock.phase with
  | .slot _ _ => let t := s.overrun; t.judgeAggregates t.dueAggregates
  | .tail => s.cutTail
  | .stopped => s

/-- R55, R60, R67: a frame start. In SETTLING the frame close stops the frames and no frame is opened. -/
def State.frameStart (s : State) : State :=
  let t := s.endFrame
  if t.power.state = .settling then t.stopFrames else t.openFrame

/-- R51, R55: the frame timer expires in TAIL or in the last slot with its round RUNNING (log 3). -/
def State.frameTimerExpired (s : State) : State :=
  match s.clock.phase with
  | .tail => s.frameStart
  | .slot k true => if s.clock.active.slotCount ≤ k + 1 then s.frameStart else s
  | .slot _ false => s
  | .stopped => s

/-- R53, R57, R59: the instant of the next slot arrives; the round of the slot before is overrun if it holds entries. -/
def State.slotInstantReached (s : State) : State :=
  match s.clock.phase with
  | .slot k _ => if k + 1 < s.clock.active.slotCount then s.overrun.startSlot (k + 1) else s
  | .tail => s
  | .stopped => s

end Sys2Proof.Machine
end

