-- ==== Sys2Proof/Machine/Power.lean ====
section
/-! DEFINITION. Chapter 7: the transitions of the Power Manager: start-up discovery, the decision of SETTLING, deep sleep,
sleep frames, waking and the wake record. -/

namespace Sys2Proof.Machine

def State.setPower (p : PowerState) (s : State) : State := { s with power := { s.power with state := p } }

/-! ## Entries (R129, R136, R144) -/

/-- R51, R129: at the entry to ACTIVE the Frame Clock raises a frame start. -/
def State.enterActive (s : State) : State := (s.setPower .active).frameStart

/-- R129: the entry to DISCOVERING. -/
def State.enterDiscovering (s : State) : State := (s.setPower .discovering).startDiscovery .start

/-- R84: the number of monitors PRESENT or FAULTED. -/
def State.readableCount (s : State) : Nat := (List.range 16).countP s.readable

/-- R84, R136: the entry to DEEP_SLEEP from SETTLING. The sleep-entry count is kept until the wake; past the wake the manual
gives it no value, and the model leaves it as it is until the next entry here (log 27). -/
def State.enterDeepSleep (s : State) : State :=
  ({ s with
    chain := { s.chain with sleepEntryCount := s.readableCount }
    power :=
      { s.power with
        state := .deepSleep, sleepFrame := 0, sleepTimer := some s.clock.active.sleepPeriod
        entryFrame := some s.clock.number, firstPoint := none, quiet := false } }).sendDown sleepAllMessage

/-- R143: at the entry to WAKING the answer slot takes the answer of a gathered WAKE request, and is empty otherwise. -/
def State.slotAtWaking (s : State) : AnswerSlot :=
  if s.power.wakeSet.request then .holding (answerFrame codeWake .accepted []) else .empty

/-- R144: the entry to WAKING. -/
def State.enterWaking (s : State) : State :=
  (({ s with power := { s.power with state := .waking, sleepTimer := none } }).setSlot s.slotAtWaking).startDiscovery .wake

/-! ## The wake record (R135, R145) -/

/-- R145: the record is replaced and the wake set emptied. -/
def State.writeRecord (r : WakeRecord) (s : State) : State :=
  { s with power := { s.power with record := r, wakeSet := .none, firstPoint := none } }

/-- R135: SETTLING returns to ACTIVE. -/
def State.returnToActive (s : State) : State :=
  let t := s.writeRecord
    { causes := s.power.wakeSet, firstPoint := none, sleepFrames := 0, entryFrame := some s.clock.number }
  (({ t with power := { t.power with quiet := false } }).raise .power).enterActive

/-- R133: the decision of SETTLING at the completion of its counter write. -/
def State.settlingDecision (s : State) : State :=
  if s.power.state = .settling then
    if s.power.wakeSet.isEmpty then s.enterDeepSleep else s.returnToActive
  else s

/-- R25: the live part of a point that wakes without having been kept. -/
def Live.woken (l : Live) : Live := { l with condition := .idle, sample := none, missed := 0, excursion := 0 }

/-- R25: whether a condition becomes IDLE at wake. -/
def Condition.losesAtWake : Condition → Bool
  | .normal => true
  | .warn => true
  | .stale => true
  | .idle => false
  | .tripped => false

/-- R25: one record at the wake transition. -/
def State.wakePoint (id : Nat) (s : State) : State :=
  match s.point id with
  | .live d l p => if d.sleepDivider.isNone && l.condition.losesAtWake then s.setPoint id (.live d l.woken p) else s
  | .vacant => s
  | .enlisting _ => s

/-- R25: the wake transition, and the inhibit set brought up to date. -/
def State.wakeTransition (s : State) : State :=
  (tableIds.foldl (fun t id => t.wakePoint id) s).refreshAllInhibits

/-- R144, R145: the end of WAKING. -/
def State.finishWaking (s : State) : State :=
  let t := s.wakeTransition
  ((t.writeRecord
    { causes := t.power.wakeSet, firstPoint := t.power.firstPoint, sleepFrames := t.power.sleepFrame,
      entryFrame := t.power.entryFrame }).raise .power).enterActive

/-! ## Gathering (R129, R134, R138, R142, R145) -/

/-- A wake cause reaches the Power Manager. -/
def State.gather (c : WakeName) (s : State) : State :=
  match s.power.state with
  | .settling => s.addWake c
  | .deepSleep => (s.addWake c).enterWaking
  | .sleepFrame => s.addWake c
  | .waking => s.addWake c
  | .loading => s
  | .discovering => s
  | .active => s

/-! ## Sleep frames (R137 to R141) -/

/-- R137, R139: the sleep timer expires: the next sleep frame begins with its enumeration. -/
def State.sleepTimerExpired (s : State) : State :=
  if s.power.state = .deepSleep ∧ s.power.sleepTimer.isSome then
    ({ s with power := { s.power with
        state := .sleepFrame, sleepFrame := s.power.sleepFrame + 1, sleepTimer := none } }).startEnumeration .sleepFrame
  else s

/-- R141: the end of the sleep round: kept aggregates, then sleep again or wake. -/
def State.sleepRoundEnded (s : State) : State :=
  let t := s.judgeAggregates s.dueSleepAggregates
  if t.power.wakeSet.isEmpty then
    ({ t with power := { t.power with
        state := .deepSleep, sleepTimer := some t.clock.active.sleepPeriod } }).sendDown sleepAllMessage
  else t.enterWaking

/-- R140: the kept points of the sleep round. -/
def State.sleepPoints (s : State) : List Nat :=
  s.liveIds (fun d => !d.kind.isAggregate && d.sleepDueIn s.power.sleepFrame)

/-- R140: the sleep round starts; with no chain work it ends at its start. -/
def State.startSleepRound (found : Nat) (s : State) : State :=
  let ids := s.sleepPoints
  let chainIds := ids.filter (fun id => (s.readEntry? id).isSome)
  let t := (s.captureRound ids).beginRound true chainIds (fun a => decide (a < found) && s.readable a)
  if t.chain.round.isSome then t else t.sleepRoundEnded

/-- R85, R139: the sleep enumeration ends. -/
def State.sleepEnumerationEnded (found : Nat) (s : State) : State :=
  let t := { s with chain := { s.chain with enumeration := none } }
  (if found < t.chain.sleepEntryCount then t.addWake .chain else t).startSleepRound found

/-! ## The end of a discovery (R81) -/

/-- R81: the state of address `a` with `f` monitors found and `c` expected. -/
def discoveredState (f c a : Nat) : MonitorState :=
  if c ≤ a then .absent else if a < f then .present else .missing

/-- R81: the entry of address `a`; failed_reads_total and last_failure are kept. -/
def RosterEntry.rebuilt (f c a : Nat) (e : RosterEntry) : RosterEntry :=
  { e with state := discoveredState f c a, consecutiveFailed := 0, statusWords := none }

/-- R81: the roster and the summary after a discovery. -/
def State.rebuildRoster (cause : DiscoveryCause) (f c : Nat) (s : State) : State :=
  { s with
    clock := { s.clock with discoveryRunning := false }
    chain :=
      { s.chain with
        roster := s.chain.roster.mapIdx (fun a e => e.rebuilt f c a)
        foundCount := f, expected := c, extra := decide (c < f), cause := cause, enumeration := none } }

/-- R81, R129, R132, R144: the wait of the power state that ran the discovery ends; in ACTIVE the tail may go on (R62). -/
def State.afterDiscovery (s : State) : State :=
  match s.power.state with
  | .discovering => s.enterActive
  | .waking => s.finishWaking
  | .settling => s.quietCheck
  | .active => s.runTail
  | .loading => s
  | .deepSleep => s
  | .sleepFrame => s

/-- R81: CHAIN is raised when an address below monitor_count became MISSING or extra monitors were found. -/
def State.discoveryEnded (cause : DiscoveryCause) (f c : Nat) (s : State) : State :=
  ((s.rebuildRoster cause f c).raiseIf (decide (f < c) || decide (c < f)) .chain).afterDiscovery

end Sys2Proof.Machine
end

