-- ==== Sys2Proof/Machine/Replies.lean ====
section
/-! DEFINITION. Chapters 4 and 5: what the part does with what comes back: replies, reply waits running out, enumeration
replies and silences, and the deliveries of the converters. -/

namespace Sys2Proof.Machine

/-! ## The end of a read (R72 to R74, R83) -/

/-- R73: a point's value in a block it depends on. -/
def Definition.channelIn (d : Definition) (b : Block) (words : List Nat) : Option Int :=
  match d.channel with
  | some c => words[c]?.bind (channelValue b)
  | none => none

/-- R73: the value that an accepted block gives a point. -/
def State.channelFor (s : State) (id : Nat) (b : Block) (words : List Nat) : Option Int :=
  (s.point id).liveDefinition?.bind (fun d => d.channelIn b words)

/-- R73: a point of the round receives a valid sample, or a missed sample for an invalid channel value. -/
def State.deliverChannel (b : Block) (words : List Nat) (s : State) (id : Nat) : State :=
  match s.channelFor id b words with
  | some v => s.sample id v
  | none => s.miss id

/-- R73, R74: what the end of a round's read gives its points; no words stand for a FAILED read. -/
def State.giveRound (b : Block) (words : Option (List Nat)) (ids : List Nat) (s : State) : State :=
  match words with
  | some w => ids.foldl (fun t id => t.deliverChannel b w id) s
  | none => s.missAll ids

/-- R60, R77, R141: the last entry is removed: the round is counted and ends. -/
def State.finishRound (r : Round) (s : State) : State :=
  let t := ({ s with chain := { s.chain with round := none } }).countRound r
  if r.inSleep then t.sleepRoundEnded
  else
    match t.clock.phase with
    | .slot k _ => t.roundEnded k
    | .tail => t
    | .stopped => t

/-- R77: a round with the outcome of its head entry noted and the entry removed. -/
def Round.advance (r : Round) (accepted : Bool) : Round :=
  match r.queue with
  | [] => r
  | e :: rest =>
    if accepted then { r with queue := rest, accepted := e.1 :: r.accepted }
    else { r with queue := rest, failed := e.1 :: r.failed }

/-- R58, R73, R74: the read of the round's head entry has ended. -/
def State.roundReadEnded (words : Option (List Nat)) (s : State) : State :=
  match s.chain.round with
  | none => s
  | some r =>
    match r.queue with
    | [] => s
    | e :: rest =>
      let t := s.giveRound e.2 words (s.dependents [e] r.points)
      let r' := r.advance words.isSome
      match rest with
      | [] => t.finishRound r'
      | next :: _ => ({ t with chain := { t.chain with round := some r' } }).sendRead (roundRead next)

/-- R35, R73: the read of a SPOT item has ended. -/
def State.spotReadEnded (id : Nat) (b : Block) (words : Option (List Nat)) (s : State) : State :=
  (s.completeSpot id (words.bind (fun w => s.channelFor id b w))).tailCompleted

/-- R83: the words of an accepted status fetch; a fetch with clear makes a FAULTED monitor PRESENT. -/
def RosterEntry.fetched (clear : Bool) (words : List Nat) (e : RosterEntry) : RosterEntry :=
  { e with
    statusWords := some (BitVec.ofNat 16 (words.getD 0 0), BitVec.ofNat 16 (words.getD 1 0))
    state := if clear && e.state == .faulted then .present else e.state }

/-- R83: the read of an MSTAT item has ended. -/
def State.mstatReadEnded (r : Read) (words : Option (List Nat)) (s : State) : State :=
  let t := match words with
    | some w => s.setEntry r.address ((s.entry r.address).fetched r.clear w)
    | none => s
  (t.raise .chain).tailCompleted

/-- R72: the read ends; its owner takes the outcome. -/
def State.readEnded (r : Read) (words : Option (List Nat)) (s : State) : State :=
  let t := s.abandonRead
  match r.owner with
  | .round => t.roundReadEnded words
  | .spot id => t.spotReadEnded id r.block words
  | .mstat => t.mstatReadEnded r words

/-! ## Attempts (R71, R72, R75) -/

/-- R72, R74: a failed attempt is noted; the first one is retried, but for TAG_STALE. -/
def State.attemptFailed (r : Read) (k : FailureKind) (s : State) : State :=
  let t := s.noteFailure r.address k
  if r.second = false ∧ k ≠ .tagStale then t.sendRead { r with second := true }
  else (t.countFailedRead r.address).readEnded r none

/-- R71: an up message arrives for the waiting attempt. -/
def State.takeReply (r : Read) (m : List Byte) (s : State) : State :=
  let check := checkReply r s.chain.tag m
  let t := s.takeFaultBit r.address check.fault
  match check with
  | .badHeader => t.attemptFailed r .headerBad
  | .mismatch => t.attemptFailed r .mismatch
  | .failed k _ => t.attemptFailed r k
  | .good _ words => t.readEnded r (some words)

/-- R71: the reply wait expires. -/
def State.readWaitExpired (s : State) : State :=
  match s.chain.read with
  | some r => s.attemptFailed r .noReply
  | none => s

/-! ## Enumerations (R80, R85) -/

/-- R80: an ENUM_REPLY with a good CRC-8 and the expected address. -/
def countsAs (expected : Nat) (m : List Byte) : Bool :=
  m.length == 3 && u8 m 0 == 0x81 && crc8 (m.take 2) == m.getD 2 0 && u8 m 1 == expected && decide (expected < 16)

def Enumeration.take (e : Enumeration) (m : List Byte) : Enumeration :=
  if e.counting then
    if countsAs e.found m then { e with found := e.found + 1 } else { e with counting := false }
  else e

/-- R71, R80: an up message: for the attempt that waits, else for the enumeration that listens, else discarded. -/
def State.upMessage (m : List Byte) (s : State) : State :=
  match s.chain.read with
  | some r => s.takeReply r m
  | none =>
    match s.chain.enumeration with
    | some e => if e.listening then { s with chain := { s.chain with enumeration := some (e.take m) } } else s
    | none => s

/-- R80: 1 ms after WAKE_ALL, ENUM is sent. -/
def State.enumDelayExpired (s : State) : State :=
  match s.chain.enumeration with
  | some e =>
    if e.listening then s
    else ({ s with chain := { s.chain with enumeration := some { e with listening := true } } }).sendDown enumMessage
  | none => s

/-- R80, R85: the silence wait expires. -/
def State.enumSilenceExpired (s : State) : State :=
  match s.chain.enumeration with
  | some e =>
    if e.listening then
      match e.purpose with
      | .discovery cause c => s.discoveryEnded cause e.found c
      | .sleepFrame => s.sleepEnumerationEnded e.found
    else s
  | none => s

/-! ## Deliveries (R88 to R92) -/

/-- R90, R92: the capture's points receive the value, or a missed sample for a saturated reading. -/
def State.deliver (ids : List Nat) (v : Option Int) (s : State) : State :=
  match v with
  | some x => s.sampleAll ids x
  | none => s.missAll ids

/-- R89: a converter delivers its reading. -/
def State.captureDelivered (c : Converter) (reading : Int) (s : State) : State :=
  match s.capture? c with
  | none => s
  | some x =>
    let v := convertedValue c reading
    let t := (s.setCapture c none).deliver x.ids v
    match x.spot with
    | some id => (t.completeSpot id v).tailCompleted
    | none => t

end Sys2Proof.Machine
end

