-- ==== Sys2Proof/Machine/SenseLines.lean ====
section
/-! DEFINITION. Chapter 5: the sense time, the debounce stages and the events of the five discrete lines; the end of
LOADING (R96, R128), which the last level to become known or the end of the load decides. -/

namespace Sys2Proof.Machine

/-! ## A debounce stage (R95, R96) -/

/-- R95, R96: one more sample of a run; at the fourth the level is determined, with the stamp of the first. -/
def DebounceStage.extend (x : DebounceStage) (b : Bool) (now : Word32) : DebounceStage :=
  if 3 ≤ x.run then
    { level := some b, run := 0, runLevel := none, runStamp := none, setStamp := some (x.runStamp.getD now) }
  else { x with run := x.run + 1, runLevel := some b, runStamp := some (x.runStamp.getD now) }

/-- A run begins. -/
def DebounceStage.begin (x : DebounceStage) (b : Bool) (now : Word32) : DebounceStage :=
  { x with run := 1, runLevel := some b, runStamp := some now }

/-- A sample equal to the level ends any run. -/
def DebounceStage.settle (x : DebounceStage) : DebounceStage := { x with run := 0, runLevel := none, runStamp := none }

/-- R95, R96: one sample of a line. -/
def DebounceStage.step (x : DebounceStage) (b : Bool) (now : Word32) : DebounceStage :=
  if x.level = some b then x.settle
  else if x.runLevel = some b then x.extend b now
  else x.begin b now

/-- R95: the change a sample made, as the new level and its stamp; a first determination is none (R96). -/
def stageChange (old new : DebounceStage) : Option (Bool × Word32) :=
  match old.level, new.level, new.setStamp with
  | some a, some b, some t => if a = b then none else some (b, t)
  | _, _, _ => none

/-! ## Line events (R97 to R100) -/

/-- R98, R142: a crash event, at the sequencer and at the Power Manager. -/
def State.crashEvent (s : State) : State := s.crashAtSequencer.gather .crash

/-- R100, R180: a tamper event, at the Update Engine and at the Power Manager. -/
def State.tamperEvent (s : State) : State := s.tamperAtEngine.gather .tamper

/-- The changes of the five lines at one event. -/
structure LineChanges where
  auxNeg : Option (Bool × Word32)
  auxPos : Option (Bool × Word32)
  crash : Option (Bool × Word32)
  wake : Option (Bool × Word32)
  lid : Option (Bool × Word32)

def State.auxChange (m : Main) (x : Option (Bool × Word32)) (s : State) : State :=
  match x with
  | some (b, t) => s.auxEdge m b t
  | none => s

/-- An event raised on the change to the level of a high pin alone. -/
def State.onHigh (x : Option (Bool × Word32)) (f : State → State) (s : State) : State :=
  match x with
  | some (true, _) => f s
  | some (false, _) => s
  | none => s

/-- R96: the events of one sample, in the order of the table of 5.3. -/
def State.lineEvents (x : LineChanges) (s : State) : State :=
  ((((s.auxChange .neg x.auxNeg).auxChange .pos x.auxPos).onHigh x.crash State.crashEvent).onHigh x.wake
    (fun t => t.gather .line)).onHigh x.lid State.tamperEvent

/-! ## The end of LOADING (R96, R128) -/

def Sense.allKnown (x : Sense) : Bool :=
  x.auxNeg.level.isSome && x.auxPos.level.isSome && x.crash.level.isSome && x.wake.level.isSome && x.lid.level.isSome

/-- R96: a line found away from its rest level raises its event, an auxiliary edge with the stamp that set the level. -/
def awayFromRest (x : DebounceStage) : Option (Bool × Word32) :=
  if x.level = some true then some (true, x.setStamp.getD 0) else none

def Sense.awayLines (x : Sense) : LineChanges :=
  { auxNeg := awayFromRest x.auxNeg, auxPos := awayFromRest x.auxPos, crash := awayFromRest x.crash,
    wake := awayFromRest x.wake, lid := awayFromRest x.lid }

/-- R128: LOADING ends at the later of the Store's report and Pack Sense's; its events reach their owners in
DISCOVERING. -/
def State.checkLoadingEnd (s : State) : State :=
  if s.power.state = .loading ∧ s.store.ready = true ∧ s.sense.allKnown = true then
    s.enterDiscovering.lineEvents s.sense.awayLines
  else s

/-! ## Sampling (R93, R94) -/

/-- R93: the next sense time that is a multiple of 10; the first one after the wrap is 0 (log 17). -/
def nextSampleTime (t : Word32) : Word32 :=
  let n := (t.toNat / 10 + 1) * 10
  if n < 4294967296 then BitVec.ofNat 32 n else 0

/-- R94: the five stages after one sample. -/
def Sense.sampled (x : Sense) (l : LineLevels) : Sense :=
  let now := nextSampleTime x.time
  { x with
    time := now, lines := l
    auxNeg := x.auxNeg.step l.auxNeg now
    auxPos := x.auxPos.step l.auxPos now
    crash := x.crash.step l.crash now
    wake := x.wake.step l.wake now
    lid := x.lid.step l.lid now }

def lineChanges (old new : Sense) : LineChanges :=
  { auxNeg := stageChange old.auxNeg new.auxNeg, auxPos := stageChange old.auxPos new.auxPos,
    crash := stageChange old.crash new.crash, wake := stageChange old.wake new.wake,
    lid := stageChange old.lid new.lid }

/-- R94 to R100: the 1 ms sample of the five lines. In LOADING it raises no event and may end LOADING (R96). -/
def State.sampleLines (l : LineLevels) (s : State) : State :=
  let t := { s with sense := s.sense.sampled l }
  if s.power.state = .loading then t.checkLoadingEnd else t.lineEvents (lineChanges s.sense t.sense)

/-- R93: what an empty queue does: 0.1 ms of sense time passes, with the line sample of a whole millisecond on the levels
last seen (log 2). -/
def State.passTime (s : State) : State :=
  if (s.sense.time + 1).toNat % 10 = 0 then s.sampleLines s.sense.lines
  else { s with sense := { s.sense with time := s.sense.time + 1 } }

end Sys2Proof.Machine
end

