-- ==== Sys2Proof/Machine/Completions.lean ====
section
/-! DEFINITION. Chapter 8: the ends of the Store's writes and what follows them: the report to the requesters, the next
holder of the arbiter, and the start of a held RESET (R148). -/

namespace Sys2Proof.Machine

/-- R148: a held RESET enters LOADING once the Store is no longer busy. -/
def State.afterWrite (s : State) : State :=
  if s.power.reset = .held ∧ s.storeBusy = false then s.enterLoading .reset else s

/-! ## Counter writes (R154) -/

def State.counterStored (w : CounterWrite) (s : State) : State :=
  let t := s.setCounterSlot w.slot (CounterSlot.encode w.sequence w.snapshot)
  { t with store := { t.store with slotInForce := some w.slot, sequence := w.sequence } }

def State.counterLost (w : CounterWrite) (s : State) : State :=
  let t := s.setCounterSlot w.slot (erasedArea 29)
  ({ t with store := { t.store with failures := satIncr t.store.failures } }).raise .store

/-- R133, R154: the end of a counter write, reported to SETTLING when the write carried its request (log 38). -/
def State.counterWriteEnded (readBackMatches : Bool) (s : State) : State :=
  match s.store.inFlight with
  | .counter w =>
    let t := if readBackMatches then s.counterStored w else s.counterLost w
    ((if w.forSettling then t.settlingDecision else t).startNextWrite).afterWrite
  | .none => s
  | .bank _ => s
  | .key _ => s

/-! ## Bank writes (R153, R173) -/

/-- R173: the DONE of the bank write: the update state becomes APPLYING. -/
def State.commitWritten (w : BankWrite) (s : State) : State :=
  let t := s.bankDone w
  { t with engine := { t.engine with state := .applying } }

/-- R153, R173: the FAILED end of the bank write: the target is EMPTY, the transaction ends WRITE_FAILED. -/
def State.commitFailed (w : BankWrite) (s : State) : State :=
  (s.setBankState w.target .empty).endTransaction .writeFailed none none

/-- R153: the end of a unit of the bank write. -/
def State.bankUnitEnded (readBackMatches : Bool) (s : State) : State :=
  match s.store.inFlight with
  | .bank w =>
    let t := s.setBank w.target (w.work readBackMatches (s.bank w.target))
    match w.unit.ended readBackMatches with
    | .goOn next => t.continueBankWrite { w with unit := next }
    | .done => ((t.commitWritten w).startNextWrite).afterWrite
    | .failed => ((t.commitFailed w).startNextWrite).afterWrite
  | .none => s
  | .counter _ => s
  | .key _ => s

/-! ## Key writes (R156, R163, R164) -/

/-- R163, R164: at OK the live key and final lock become those of the record. -/
def State.keyStored (w : KeyWrite) (s : State) : State :=
  let t := s.setKeyCopy w.copy (KeyCopy.encode w.generation w.record)
  { t with
    store := { t.store with keyInForce := some w.copy }
    engine := { t.engine with key := w.record.key, finalLock := w.record.finalLock } }

def State.keyLost (w : KeyWrite) (s : State) : State := (s.setKeyCopy w.copy (erasedArea 40)).raise .store

/-- R163, R189: an answer that still waits is placed with the write outcome, OK 0 or FAILED 1. -/
def State.answerKeyWrite (w : KeyWrite) (ok : Bool) (s : State) : State :=
  if s.port.slot = .waiting w.requester then s.placeAnswer w.requester .done [boolByte (!ok)] else s

/-- R156: the end of a key write. -/
def State.keyWriteEnded (readBackMatches : Bool) (s : State) : State :=
  match s.store.inFlight with
  | .key w =>
    let t := if readBackMatches then s.keyStored w else s.keyLost w
    ((t.answerKeyWrite w readBackMatches).startNextWrite).afterWrite
  | .none => s
  | .bank _ => s
  | .counter _ => s

/-! ## The end of the load (R157 to R160) -/

/-- R128, R160: the Store reports the end of its selection, and LOADING may end. -/
def State.loadEnded (s : State) : State :=
  if s.power.state = .loading ∧ s.store.ready = false then s.endLoad.checkLoadingEnd else s

end Sys2Proof.Machine
end

