-- ==== Sys2Proof/Machine/Port.lean ====
section
/-! DEFINITION. Chapter 10 and 7.8: write and read transactions on the host port, the frame checks that fail, the path of a
request to its owner, and the beginning of a RESET; with the commands of the supply and the port. -/

namespace Sys2Proof.Machine

def State.setWriteTx (x : WriteTx) (s : State) : State := { s with port := { s.port with writeTx := x } }

/-- R185: the part shifts out 0xFF for every byte of a write transaction. -/
def State.shiftOut (bytes : List Byte) (s : State) : State := { s with port := { s.port with hsdo := bytes } }

def idleBytes (n : Nat) : List Byte := List.replicate n 0xFF

/-! ## RESET (R147, R148) -/

/-- R147, R148: a pending RESET begins: LOADING at once, or held while the Store is busy. -/
def State.beginReset (s : State) : State :=
  if s.storeBusy then { s with power := { s.power with reset := .held } } else s.enterLoading .reset

/-! ## Write transactions (R185, R187, R189, R195) -/

/-- R189: the slot at the beginning of a write transaction: left as it stands in sleep, otherwise emptied. -/
def State.emptySlotAwake (s : State) : State :=
  match s.power.state with
  | .deepSleep => s
  | .sleepFrame => s
  | .loading => s.setSlot .empty
  | .discovering => s.setSlot .empty
  | .active => s.setSlot .empty
  | .settling => s.setSlot .empty
  | .waking => s.setSlot .empty

/-- R147, R148, R189, R195: a write transaction begins. One that finds a RESET pending begins the reset, and its request is
discarded whenever it ends; what becomes of one that finds the RESET held, its end decides (`State.endDiscarded`). A
beginning while a write transaction is already begun cannot occur (R185); it starts that transaction anew (log 40). -/
def State.beginWrite (s : State) : State :=
  let t := s.shiftOut (idleBytes 1)
  match s.power.reset with
  | .none => t.emptySlotAwake.setWriteTx .begun
  | .pending => ((t.setSlot .empty).setWriteTx .discarded).beginReset
  | .held => (t.setSlot .empty).setWriteTx .begun

/-- A transaction's end finds its beginning: a command that no WRITE_TRANSACTION_BEGIN came before brings its own (log 4). -/
def State.ensureBegun (s : State) : State :=
  match s.port.writeTx with
  | .none => s.beginWrite
  | .begun => s
  | .discarded => s

/-- R147, R148, R189, R195: a write transaction that ends now is discarded unanswered: its beginning began a RESET, or a
RESET is held at its end. One that began while the RESET was held and ends after the entry to LOADING is not: the power
state at its end fixes its treatment (R189). -/
def State.endDiscarded (s : State) : Bool := s.port.writeTx == .discarded || s.power.reset == .held

/-- R147, R148, R186, R187, R189: the deassertion that ends a write transaction of `n` bytes: what it carried is acted on
unless a RESET discards it. -/
def State.endWrite (n : Nat) (act : State → State) (s : State) : State :=
  let t := s.ensureBegun
  let u := (t.setWriteTx .none).shiftOut (idleBytes n)
  if t.endDiscarded then u else act u

/-- R187: a request with a good frame is taken by its owner, with the body length test already decided. -/
def request (code : Byte) (body : List Byte) (lengthOk : Bool) (owner : State → State × Reply) (s : State) :
    Host.Outcome State Fault Refusal :=
  event (fun t => t.endWrite (4 + body.length) (takeRequest code lengthOk owner)) s

/-- R143, R186: an answer of the port itself is placed, except in sleep. -/
def State.portAnswer (code : Byte) (a : AnswerCode) (s : State) : State :=
  match s.power.state with
  | .deepSleep => s
  | .sleepFrame => s
  | .loading => s.placeAnswer code a []
  | .discovering => s.placeAnswer code a []
  | .active => s.placeAnswer code a []
  | .settling => s.placeAnswer code a []
  | .waking => s.placeAnswer code a []

/-- R186, orders 1 and 2: a write transaction whose frame fails its checks. Bytes that make no such transaction change
nothing (log 3). -/
def State.badFrame (frame : List Byte) (s : State) : State :=
  match frame with
  | [] => s
  | code :: _ =>
    if code ≠ 0 ∧ checkFrame frame = .bad then s.endWrite frame.length (fun t => t.portAnswer code .frameError) else s

/-- R186, order 3: a good frame whose code names no request. -/
def State.unknownCode (code : Byte) (body : List Byte) (s : State) : State :=
  if code = 0 ∨ requestCodes.contains code then s
  else s.endWrite (4 + body.length) (fun t => t.portAnswer code .unknownRequest)

/-! ## Read transactions (R143, R148, R185, R189) -/

/-- R189: what a read transaction returns. -/
def State.returned (s : State) : List Byte :=
  if s.power.state = .deepSleep ∨ s.power.state = .sleepFrame then asleepMarker
  else if s.power.reset = .held then notReadyMarker
  else
    match s.port.slot with
    | .holding f => f
    | .empty => notReadyMarker
    | .waiting _ => notReadyMarker

/-- R147, R189: the read returns the whole RESET answer while the reset is pending. -/
def State.returnsReset (s : State) (clocked : Nat) : Bool :=
  s.power.reset == .pending &&
    (match s.port.slot with
      | .holding f => f.head? == some codeReset && decide (f.length + 1 ≤ clocked)
      | .empty => false
      | .waiting _ => false)

/-- R185: the bytes on HSDO in a read transaction of `clocked` bytes. -/
def readBytesOut (clocked : Nat) (bytes : List Byte) : List Byte :=
  (idleBytes 1 ++ bytes ++ idleBytes clocked).take clocked

/-- R185, R189: a read transaction; one with no whole byte has no effect. One inside a write transaction cannot occur
(R185); it is run, and the write transaction stays begun (log 40). -/
def State.readOut (clocked : Nat) (s : State) : State :=
  if clocked = 0 then s
  else
    let t := s.shiftOut (readBytesOut clocked s.returned)
    if s.returnsReset clocked then t.beginReset else t

/-! ## The commands of the supply and the port -/

/-- POWER_ON (R128). -/
def execPowerOn (s : State) : Host.Outcome State Fault Refusal := .next s.gainPower

/-- POWER_LOSS (R161). -/
def execPowerLoss (s : State) : Host.Outcome State Fault Refusal := if s.vsup then .next s.losePower else .next s

/-- STORE_LOAD_END (R160). -/
def execStoreLoadEnd (s : State) : Host.Outcome State Fault Refusal := event State.loadEnded s

/-- WRITE_TRANSACTION_BEGIN (R189). -/
def execWriteTransactionBegin (s : State) : Host.Outcome State Fault Refusal := event State.beginWrite s

/-- READ_TRANSACTION (R189). -/
def execReadTransaction (clocked : Nat) (s : State) : Host.Outcome State Fault Refusal :=
  event (fun t => t.readOut clocked) s

/-- FRAME_ERROR (R186). -/
def execFrameError (frame : List Byte) (s : State) : Host.Outcome State Fault Refusal :=
  event (fun t => t.badFrame frame) s

/-- UNKNOWN_REQUEST (R186). -/
def execUnknownRequest (code : Byte) (body : List Byte) (s : State) : Host.Outcome State Fault Refusal :=
  event (fun t => t.unknownCode code body) s

end Sys2Proof.Machine
end

