-- ==== Sys2Proof/Machine/AttentionRequests.lean ====
section
/-! DEFINITION. The requests of the Attention Unit (10.4): STATUS, MASK, IDENT. -/

namespace Sys2Proof.Machine

/-- R193. -/
def statusBody (s : State) : List Byte :=
  [s.attention.set.toByte, s.attention.mask.toByte] ++ le8 s.power.state.code ++ le8 s.seq.state.code ++
    le8 s.engine.state.code ++ leWord32 s.clock.number ++ le16 s.table.inhibitSet.length ++
    le16 s.table.changedSet.length ++ le8 s.clock.tail.length

def takeStatus (s : State) : State × Reply := (s, .now .done (statusBody s))

/-- STATUS (R193). -/
def execStatus (body : List Byte) (s : State) : Host.Outcome State Fault Refusal :=
  request codeStatus body (body.length == 0) takeStatus s

/-- R192: the mask is replaced whole. -/
def State.setMask (m : Causes) (s : State) : State := { s with attention := { s.attention with mask := m } }

def takeMask (b : List Byte) (s : State) : State × Reply :=
  let m := Causes.ofByte (b.getD 0 0)
  (s.setMask m, .now .done [m.toByte, s.attention.set.toByte])

/-- MASK (R192). -/
def execMask (body : List Byte) (s : State) : Host.Outcome State Fault Refusal :=
  request codeMask body (body.length == 1) (takeMask body) s

/-- R194: the key state, the final lock and the active version, absent before the Store's report. -/
def identTail (s : State) : List Byte :=
  if s.store.ready then [boolByte s.engine.key.isSome, boolByte s.engine.finalLock] ++ leWord32 s.store.activeVersion
  else List.replicate 6 0

/-- R194: the device number, family 0xB4, revision 3 and the capability record. -/
def identBody (s : State) : List Byte :=
  (List.range 8).map (fun i => (Config.deviceNumber >>> (8 * i)).setWidth 8) ++ [0xB4, 3] ++ le16 384 ++
    [16, 32, 32, 4, 16, 64] ++ [boolByte s.store.ready] ++ identTail s

def takeIdent (s : State) : State × Reply := (s, .now .done (identBody s))

/-- IDENT (R194). -/
def execIdent (body : List Byte) (s : State) : Host.Outcome State Fault Refusal :=
  request codeIdent body (body.length == 0) takeIdent s

end Sys2Proof.Machine
end

