-- ==== Sys2Proof/Machine/PointRequests.lean ====
section
/-! DEFINITION. The requests on points: ENLIST, LOOKUP, AMEND, AMENDG, RETIRE (chapter 1) and RELEASE, CHANGES, QINHIB
(chapter 2). -/

namespace Sys2Proof.Machine

/-! ## The id range test (R1) -/

/-- R1: the id at offset 0 of a body. -/
def bodyId (b : List Byte) : Nat := u16 b 0

/-- R1: an id above 383 is refused before the owner's own tests. -/
def withId (b : List Byte) (owner : Nat → State → State × Reply) (s : State) : State × Reply :=
  if bodyId b ≤ 383 then owner (bodyId b) s else refuse .badArgument s

/-! ## ENLIST (R18) -/

/-- R18: the STAGED step of ENLIST, read from the body (log 24). -/
def State.enlistStaged (s : State) (id : Nat) (b : List Byte) : Bool :=
  s.staged id || (idList b 32 (u8 b 31)).any s.staged ||
    (match Kind.ofCode (u8 b 2) with
      | some k => s.engine.stage.any (Item.holdsSource k (absentFF (u8 b 4)) (absentFF (u8 b 5)))
      | none => false)

/-- R2: a LIVE or ENLISTING point of the same kind holds the chain source. -/
def State.sourceHeld (s : State) (d : Definition) : Bool :=
  d.kind.isCell && !(idsWhere (fun id => (s.point id).definition?.any (fun e =>
    e.kind == d.kind && e.monitor == d.monitor && e.channel == d.channel))).isEmpty

/-- The kind of the first member of a definition, as the table holds it; CELL_V with none. -/
def State.memberKind (s : State) (d : Definition) : Kind :=
  ((d.members.head?.bind (fun m => (s.point m).definition?)).map (·.kind)).getD .cellV

/-- R4: each member is LIVE or ENLISTING, unmarked, and all are of one cell kind. -/
def State.membersTaken (s : State) (d : Definition) : Bool :=
  !d.kind.isAggregate ||
    d.members.all (fun m =>
      !(s.point m).retireMarked && (s.memberKind d).isCell &&
        (s.point m).definition?.any (fun e => e.kind == s.memberKind d))

/-- R3: the range of the limits of a definition, for an aggregate by its members. -/
def State.limitRangeOf (s : State) (d : Definition) : Int × Int := limitRange d.kind (s.memberKind d)

/-- R2 to R9: what ENLIST asks of a definition. -/
def State.enlistable (s : State) (d : Definition) : Bool :=
  d.guard == .changeable && d.shapeOk && s.membersTaken d && d.limits.within (s.limitRangeOf d) && !s.sourceHeld d

/-- R5: the slot lies below the smallest slot count. -/
def State.slotFits (s : State) (slot : Option Nat) : Bool := slot.all (fun k => decide (k < s.smallestSlotCount))

def takeEnlist (b : List Byte) (id : Nat) (s : State) : State × Reply :=
  if !(s.point id).isVacant then refuse .exists_ s
  else if s.enlistStaged id b then refuse .staged s
  else
    match Definition.decode (b.drop 2) with
    | none => refuse .badArgument s
    | some d =>
      if !s.enlistable d then refuse .badArgument s
      else if !s.slotFits d.slot then refuse .slotRange s
      else (s.setPoint id (.enlisting d), .now .accepted [])

/-- ENLIST (R18). -/
def execEnlist (body : List Byte) (s : State) : Host.Outcome State Fault Refusal :=
  request codeEnlist body (enlistLengthOk body) (withId body (takeEnlist body)) s

/-! ## LOOKUP (R19) -/

/-- R19, 11.4: the record of a point that is not VACANT. -/
def lookupBody (id : Nat) : Point → List Byte
  | .vacant => []
  | .enlisting d => le16 id ++ le8 1 ++ d.encode ++ enlistingLiveBytes ++ pendingBytes none
  | .live d l p => le16 id ++ le8 2 ++ d.encode ++ l.encode ++ pendingBytes p

def takeLookup (id : Nat) (s : State) : State × Reply :=
  if (s.point id).isVacant then refuse .noPoint s else (s, .now .done (lookupBody id (s.point id)))

/-- LOOKUP (R19). -/
def execLookup (body : List Byte) (s : State) : Host.Outcome State Fault Refusal :=
  request codeLookup body (body.length == 2) (withId body takeLookup) s

/-! ## AMEND and AMENDG (R20, R21) -/

/-- R12: the amended fields a pending part holds. -/
def pendingChange : Option PendingPart → Change
  | some (.fields c) => c
  | some .retire => .nothing
  | none => .nothing

/-- R20: the prospective definition keeps limits ascending and within range, a way to trip, and a sleep part for WAKE. -/
def State.prospectiveOk (s : State) (d : Definition) : Bool :=
  d.limits.ascending && d.limits.within (s.limitRangeOf d) && d.canOpen && d.canWake

/-- R20: the tests of a change on a point with live definition `d` and pending part `p`. -/
def State.changeOk (s : State) (c : Change) (d : Definition) (p : Option PendingPart) : Bool :=
  c != .nothing && c.rangesOk (s.limitRangeOf d) && !(d.kind.isAggregate && c.slot.isSome) &&
    s.prospectiveOk (((pendingChange p).merge c).applyTo d)

/-- R12, R20: the change merges into the pending part. -/
def mergePending (c : Change) (p : Option PendingPart) : Option PendingPart := some (.fields ((pendingChange p).merge c))

def takeAmend (b : List Byte) (id : Nat) (s : State) : State × Reply :=
  match s.point id with
  | .vacant => refuse .noPoint s
  | .enlisting _ => refuse .noPoint s
  | .live d l p =>
    if d.guard = .guarded then refuse .guarded s
    else if s.staged id then refuse .staged s
    else
      match Change.decode (b.drop 2) with
      | none => refuse .badArgument s
      | some c =>
        if !s.changeOk c d p then refuse .badArgument s
        else if !s.slotFits c.slot then refuse .slotRange s
        else if p = some .retire then refuse .waiting s
        else (s.setPoint id (.live d l (mergePending c p)), .now .accepted [])

/-- AMEND (R20). -/
def execAmend (body : List Byte) (s : State) : Host.Outcome State Fault Refusal :=
  request codeAmend body (body.length == 29) (withId body (takeAmend body)) s

/-- R21: a LIVE CHANGEABLE point of the kind on a monitor of the range, without the RETIRE mark. -/
def Point.groupTarget (k : Kind) (first last : Nat) : Point → Bool
  | .live d _ p =>
    d.guard == .changeable && d.kind == k && d.monitor.any (between first last) && p != some .retire
  | .vacant => false
  | .enlisting _ => false

def State.groupTargets (s : State) (k : Kind) (first last : Nat) : List Nat :=
  idsWhere (fun id => (s.point id).groupTarget k first last)

/-- R21: the prospective definition of a target keeps its limits in order and a way to trip. -/
def Point.groupOk (c : Change) : Point → Bool
  | .live d _ p =>
    let d' := ((pendingChange p).merge c).applyTo d
    d'.limits.ascending && d'.canOpen
  | .vacant => true
  | .enlisting _ => true

def State.mergeAt (c : Change) (s : State) (id : Nat) : State :=
  match s.point id with
  | .live d l p => s.setPoint id (.live d l (mergePending c p))
  | .vacant => s
  | .enlisting _ => s

/-- R21: the body's own test: a cell kind, addresses in order and at most 15, some field named, every value in range. -/
def groupBody? (b : List Byte) : Option (Kind × Nat × Nat × Change) :=
  match Kind.ofCode (u8 b 0), Change.decode (b.drop 3) with
  | some k, some c =>
    if k.isCell && decide (u8 b 1 ≤ u8 b 2) && decide (u8 b 2 ≤ 15) && c != .nothing && c.groupOnly &&
        c.rangesOk k.range then some (k, u8 b 1, u8 b 2, c)
    else none
  | _, _ => none

def takeAmendg (b : List Byte) (s : State) : State × Reply :=
  match groupBody? b with
  | none => refuse .badArgument s
  | some (k, first, last, c) =>
    let targets := s.groupTargets k first last
    if targets.any s.staged then refuse .staged s
    else if !targets.all (fun id => (s.point id).groupOk c) then refuse .badArgument s
    else
      (targets.foldl (State.mergeAt c) s,
        .now (if targets.isEmpty then .done else .accepted) (le16 targets.length))

/-- AMENDG (R21). -/
def execAmendg (body : List Byte) (s : State) : Host.Outcome State Fault Refusal :=
  request codeAmendg body (body.length == 30) (takeAmendg body) s

/-! ## RETIRE (R22, R23) -/

/-- R23: a LIVE or ENLISTING aggregate names the id as a member. -/
def State.isMember (s : State) (id : Nat) : Bool :=
  s.table.points.toList.any (fun p => p.definition?.any (fun d => d.kind.isAggregate && d.members.contains id))

/-- R23: the live profile names the id. -/
def State.inProfile (s : State) (id : Nat) : Bool :=
  s.seq.profile.any (fun p => p.packPoint == id || p.busPoint == id || p.currentPoint == id)

/-- R23: a point is in use. -/
def State.inUse (s : State) (id : Nat) : Bool := s.isMember id || s.inProfile id || s.namedInStage id

def takeRetire (id : Nat) (s : State) : State × Reply :=
  match s.point id with
  | .vacant => refuse .noPoint s
  | .enlisting _ => refuse .noPoint s
  | .live d l p =>
    if p = some .retire then (s, .now .accepted [])
    else if d.guard = .guarded then refuse .guarded s
    else if s.staged id then refuse .staged s
    else if s.inUse id then refuse .inUse s
    else if l.condition = .tripped then refuse .latched s
    else (s.setPoint id (.live d l (some .retire)), .now .accepted [])

/-- RETIRE (R22). -/
def execRetire (body : List Byte) (s : State) : Host.Outcome State Fault Refusal :=
  request codeRetire body (body.length == 2) (withId body takeRetire) s

/-! ## RELEASE, CHANGES, QINHIB (R37, R38, R45, R46) -/

def takeRelease (id : Nat) (s : State) : State × Reply :=
  match s.point id with
  | .vacant => refuse .noPoint s
  | .enlisting _ => refuse .noPoint s
  | .live d l p =>
    if l.condition ≠ .tripped then refuse .state s
    else if !clearTest d l then refuse .notClear s
    else (s.setLive id d l (l.released d) p, .now .done (le8 (l.released d).condition.code))

/-- RELEASE (R37, R38). -/
def execRelease (body : List Byte) (s : State) : Host.Outcome State Fault Refusal :=
  request codeRelease body (body.length == 2) (withId body takeRelease) s

/-- The condition code of an id in the changed-point set; such an id is LIVE. -/
def Point.conditionCode : Point → Nat
  | .live _ l _ => l.condition.code
  | .vacant => 255
  | .enlisting _ => 255

def State.changeEntry (s : State) (id : Nat) : List Byte := le16 id ++ le8 (s.point id).conditionCode

/-- R45: the 16 lowest ids are reported and leave the set. -/
def takeChanges (s : State) : State × Reply :=
  let batch := s.table.changedSet.take 16
  let left := s.table.changedSet.drop 16
  (s.setChanged left, .now .done (le8 batch.length ++ le16 left.length ++ batch.flatMap s.changeEntry))

/-- CHANGES (R45). -/
def execChanges (body : List Byte) (s : State) : Host.Outcome State Fault Refusal :=
  request codeChanges body (body.length == 0) takeChanges s

/-- R46: the page of the inhibit set from a start id. -/
def State.inhibitPage (s : State) (start : Nat) : List Nat :=
  (s.table.inhibitSet.filter (fun id => decide (start ≤ id))).take 64

def takeQinhib (b : List Byte) (s : State) : State × Reply :=
  if 383 < bodyId b then refuse .badArgument s
  else
    let page := s.inhibitPage (bodyId b)
    (s, .now .done (le16 s.table.inhibitSet.length ++ le8 page.length ++ page.flatMap le16))

/-- QINHIB (R46). -/
def execQinhib (body : List Byte) (s : State) : Host.Outcome State Fault Refusal :=
  request codeQinhib body (body.length == 2) (takeQinhib body) s

end Sys2Proof.Machine
end

