-- ==== Sys2Proof/Machine/ClockRequests.lean ====
section
/-! DEFINITION. The requests of the Frame Clock and the Chain Controller: SETFRM, QFRM, SPOT, DISCOV (chapter 3), MSTAT and
QCHAIN (chapter 4). -/

namespace Sys2Proof.Machine

/-! ## SETFRM (R49) -/

/-- R49: the body of SETFRM. -/
def PendingParams.decode (b : List Byte) : PendingParams :=
  { frameLength := u8 b 0, slotCount := u8 b 1, sleepPeriod := u16 b 2 }

/-- R49: the slot of a record that SETFRM tests. -/
def Point.testedSlot : Point → Option Nat
  | .vacant => none
  | .enlisting d => d.slot
  | .live d _ (some (.fields c)) => c.slot.or d.slot
  | .live d _ (some .retire) => d.slot
  | .live d _ none => d.slot

/-- R49: the slot of a staged POINT item. -/
def Item.slot? : Item → Option Nat
  | .point _ d => d.slot
  | .remove _ => none
  | .group _ => none
  | .profile _ => none
  | .frame _ => none

/-- R49: every slot tested lies below the new slot count. -/
def State.slotsBelow (s : State) (count : Nat) : Bool :=
  s.table.points.toList.all (fun p => p.testedSlot.all (fun k => decide (k < count))) &&
    s.engine.stage.all (fun x => x.slot?.all (fun k => decide (k < count)))

def takeSetfrm (b : List Byte) (s : State) : State × Reply :=
  let p := PendingParams.decode b
  if !p.rangesOk then refuse .badArgument s
  else if s.stagedFrame?.isSome then refuse .staged s
  else if !s.slotsBelow p.slotCount then refuse .slotRange s
  else ({ s with clock := { s.clock with waiting := some p } }, .now .accepted [])

/-- SETFRM (R49). -/
def execSetfrm (body : List Byte) (s : State) : Host.Outcome State Fault Refusal :=
  request codeSetfrm body (body.length == 4) (takeSetfrm body) s

/-! ## QFRM (R50) -/

def pendingParamsBytes : Option PendingParams → List Byte
  | some p => [1] ++ le8 p.frameLength ++ le8 p.slotCount ++ le16 p.sleepPeriod
  | none => List.replicate 5 0

/-- 11.2: a tail item with its kind code. -/
def TailItem.bytes : TailItem → List Byte
  | .spot id => [1] ++ le16 id
  | .mstat m c => [2] ++ le8 m ++ [boolByte c]

/-- R50: the queue in order; the head is in flight when its flag says so. -/
def tailBytes (inFlight : Bool) : List TailItem → List Byte
  | [] => []
  | x :: rest => x.bytes ++ [boolByte inFlight] ++ tailBytes false rest

def ClockPhase.slotByte : ClockPhase → Nat
  | .slot k _ => k
  | .stopped => 0
  | .tail => 0

def qfrmBody (s : State) : List Byte :=
  s.clock.active.encode ++ pendingParamsBytes s.clock.waiting ++ leWord32 s.clock.number ++
    le8 s.clock.phase.code ++ le8 s.clock.phase.slotByte ++ leWord16 s.clock.overruns ++
    [boolByte s.clock.discoveryPending, boolByte s.clock.discoveryRunning] ++ le8 s.clock.tail.length ++
    tailBytes s.clock.tailInFlight s.clock.tail

def takeQfrm (s : State) : State × Reply := (s.clear .frame, .now .done (qfrmBody s))

/-- QFRM (R50). -/
def execQfrm (body : List Byte) (s : State) : Host.Outcome State Fault Refusal :=
  request codeQfrm body (body.length == 0) takeQfrm s

/-! ## SPOT (R64) and DISCOV (R62) -/

/-- R63, R65: an item joins the tail queue at the back, and is served at once when the tail is free. -/
def State.joinTail (x : TailItem) (s : State) : State :=
  ({ s with clock := { s.clock with tail := s.clock.tail ++ [x] } }).runTail

def takeSpot (id : Nat) (s : State) : State × Reply :=
  if s.power.state = .settling then refuse .state s
  else if !(s.point id).isLive then refuse .noPoint s
  else if s.clock.tail.contains (.spot id) then (s, .now .accepted [])
  else if 4 ≤ s.clock.tail.length then refuse .queueFull s
  else (s.joinTail (.spot id), .now .accepted [])

/-- SPOT (R64). -/
def execSpot (body : List Byte) (s : State) : Host.Outcome State Fault Refusal :=
  request codeSpot body (body.length == 2) (withId body takeSpot) s

def takeDiscov (s : State) : State × Reply :=
  if s.power.state = .settling then refuse .state s
  else ({ s with clock := { s.clock with discoveryPending := true } }, .now .accepted [])

/-- DISCOV (R62). -/
def execDiscov (body : List Byte) (s : State) : Host.Outcome State Fault Refusal :=
  request codeDiscov body (body.length == 0) takeDiscov s

/-! ## MSTAT (R83) and QCHAIN (R87) -/

def takeMstat (b : List Byte) (s : State) : State × Reply :=
  match boolOf (u8 b 1) with
  | none => refuse .badArgument s
  | some c =>
    if 15 < u8 b 0 then refuse .badArgument s
    else if s.power.state = .settling ∨ s.readable (u8 b 0) = false then refuse .state s
    else if 4 ≤ s.clock.tail.length then refuse .queueFull s
    else (s.joinTail (.mstat (u8 b 0) c), .now .accepted [])

/-- MSTAT (R83). -/
def execMstat (body : List Byte) (s : State) : Host.Outcome State Fault Refusal :=
  request codeMstat body (body.length == 2) (takeMstat body) s

/-- R87: one roster entry. -/
def RosterEntry.bytes (e : RosterEntry) : List Byte :=
  le8 e.state.code ++ le8 e.consecutiveFailed ++ leWord16 e.failedReads ++ le8 (failureCode e.lastFailure) ++
    (match e.statusWords with
      | some (a, b) => [1] ++ leWord16 a ++ leWord16 b
      | none => List.replicate 5 0)

def qchainBody (s : State) : List Byte :=
  le8 s.chain.foundCount ++ le8 s.chain.expected ++ [boolByte s.chain.extra] ++ le8 s.chain.cause.code ++
    le8 s.chain.sleepEntryCount ++ [s.chain.tag] ++
    [boolByte s.clock.discoveryPending, boolByte s.clock.discoveryRunning] ++
    s.chain.roster.toList.flatMap RosterEntry.bytes

def takeQchain (s : State) : State × Reply := (s.clear .chain, .now .done (qchainBody s))

/-- QCHAIN (R87). -/
def execQchain (body : List Byte) (s : State) : Host.Outcome State Fault Refusal :=
  request codeQchain body (body.length == 0) takeQchain s

end Sys2Proof.Machine
end

