-- ==== Sys2Proof/Machine/Events.lean ====
section
/-! DEFINITION. The events of the Frame Clock, Pack Sense, the ring, the Power Manager and the Nonvolatile Store as
commands. A command whose event cannot occur in the state it meets changes nothing (log 3). -/

namespace Sys2Proof.Machine

/-- FRAME_START (R55). -/
def execFrameStart (s : State) : Host.Outcome State Fault Refusal := event State.frameTimerExpired s

/-- SLOT_START (R57). -/
def execSlotStart (s : State) : Host.Outcome State Fault Refusal := event State.slotInstantReached s

/-- CAPTURE_DELIVERY (R89). -/
def execCaptureDelivery (c : Converter) (reading : Int) (s : State) : Host.Outcome State Fault Refusal :=
  event (fun t => t.captureDelivered c reading) s

/-- BLOCK_REPLY (R71). -/
def execBlockReply (message : List Byte) (s : State) : Host.Outcome State Fault Refusal :=
  event (fun t => t.upMessage message) s

/-- READ_WAIT_EXPIRY (R71). -/
def execReadWaitExpiry (s : State) : Host.Outcome State Fault Refusal := event State.readWaitExpired s

/-- ENUM_DELAY_EXPIRY (R80). -/
def execEnumDelayExpiry (s : State) : Host.Outcome State Fault Refusal := event State.enumDelayExpired s

/-- ENUM_REPLY (R80). -/
def execEnumReply (message : List Byte) (s : State) : Host.Outcome State Fault Refusal :=
  event (fun t => t.upMessage message) s

/-- ENUM_SILENCE_EXPIRY (R80). -/
def execEnumSilenceExpiry (s : State) : Host.Outcome State Fault Refusal := event State.enumSilenceExpired s

/-- SLEEP_TIMER_EXPIRY (R137). -/
def execSleepTimerExpiry (s : State) : Host.Outcome State Fault Refusal := event State.sleepTimerExpired s

/-- LINE_SAMPLE (R95). -/
def execLineSample (levels : LineLevels) (s : State) : Host.Outcome State Fault Refusal :=
  event (fun t => t.sampleLines levels) s

/-- COUNTER_WRITE_END (R154). -/
def execCounterWriteEnd (readBackMatches : Bool) (s : State) : Host.Outcome State Fault Refusal :=
  event (fun t => t.counterWriteEnded readBackMatches) s

/-- BANK_WRITE_UNIT_END (R153). -/
def execBankWriteUnitEnd (readBackMatches : Bool) (s : State) : Host.Outcome State Fault Refusal :=
  event (fun t => t.bankUnitEnded readBackMatches) s

/-- KEY_WRITE_END (R156). -/
def execKeyWriteEnd (readBackMatches : Bool) (s : State) : Host.Outcome State Fault Refusal :=
  event (fun t => t.keyWriteEnded readBackMatches) s

/-- An empty queue: sense time passes (log 2). -/
def idle (s : State) : Host.Outcome State Fault Refusal := event State.passTime s

end Sys2Proof.Machine
end

