-- ==== Sys2Proof/Machine/PowerRequests.lean ====
section
/-! DEFINITION. The requests of the Power Manager (chapter 7): SLEEP, WAKE, QPOWER, RESET. -/

namespace Sys2Proof.Machine

/-- R131, R147: the sequencer is at rest, OPEN or LOCKOUT. -/
def SeqState.atRest : SeqState → Bool
  | .opened => true
  | .lockout => true
  | .negClosing => false
  | .precharging => false
  | .posClosing => false
  | .closed => false
  | .deferring => false
  | .opening => false

/-! ## SLEEP (R131, R132) -/

/-- R131, R179: a transaction in STAGING is discarded with outcome ABANDONED. -/
def State.abandonStaging (s : State) : State :=
  match s.engine.state with
  | .staging => s.endTransaction .abandoned none none
  | .idle => s
  | .verifying => s
  | .writing => s
  | .applying => s

/-- R132: at the entry to SETTLING frames stop at once in TAIL, and at the frame close of the current frame in SLOT. A discovery that
runs then is waited for after the stop, as R67 and R132 say, though R82 words the wait as before it (log 41). -/
def State.enterSettling (s : State) : State :=
  let t := ({ s with power := { s.power with state := .settling, wakeSet := .none, quiet := false } }).abandonStaging
  match t.clock.phase with
  | .tail => t.stopFrames
  | .slot _ _ => t
  | .stopped => t.quietCheck

def takeSleep (s : State) : State × Reply :=
  if s.power.state ≠ .active ∨ s.seq.state.atRest = false then refuse .state s
  else if s.engine.state.inFlight ∨ s.keyWriteInFlight then refuse .busy s
  else if s.sense.wake.level = some true then refuse .wakeHeld s
  else (s.enterSettling, .now .accepted [])

/-- SLEEP (R131). -/
def execSleep (body : List Byte) (s : State) : Host.Outcome State Fault Refusal :=
  request codeSleep body (body.length == 0) takeSleep s

/-! ## WAKE (R130, R134, R138, R142, R143) -/

def takeWake (s : State) : State × Reply :=
  match s.power.state with
  | .active => (s, .now .done [])
  | .settling => (s.gather .request, .now .accepted [])
  | .deepSleep => (s.gather .request, .silent)
  | .sleepFrame => (s.gather .request, .silent)
  | .loading => refuse .starting s
  | .discovering => refuse .starting s
  | .waking => refuse .starting s

/-- WAKE (R130). -/
def execWake (body : List Byte) (s : State) : Host.Outcome State Fault Refusal :=
  request codeWake body (body.length == 0) takeWake s

/-! ## QPOWER (R146) -/

def optId (x : Option Nat) : List Byte :=
  match x with
  | some id => [1] ++ le16 id
  | none => [0, 0, 0]

/-- R146: the number of LIVE points that hold a sleep part. -/
def State.keptCount (s : State) : Nat := (s.liveIds (fun d => d.sleepDivider.isSome)).length

def qpowerBody (s : State) : List Byte :=
  le8 s.power.state.code ++ [s.power.record.causes.toByte] ++ optId s.power.record.firstPoint ++
    leWord32 s.power.record.sleepFrames ++ optWord32 s.power.record.entryFrame ++
    le16 s.clock.active.sleepPeriod ++ optId (s.clock.waiting.map (·.sleepPeriod)) ++ le16 s.keptCount ++
    leWord32 s.power.sleepFrame ++ [s.power.wakeSet.toByte, boolByte s.power.quiet]

def takeQpower (s : State) : State × Reply := (s.clear .power, .now .done (qpowerBody s))

/-- QPOWER (R146). -/
def execQpower (body : List Byte) (s : State) : Host.Outcome State Fault Refusal :=
  request codeQpower body (body.length == 0) takeQpower s

/-! ## RESET (R147) -/

def takeReset (s : State) : State × Reply :=
  if s.power.state ≠ .active ∨ s.seq.state.atRest = false then refuse .state s
  else if s.storeBusy then refuse .busy s
  else ({ s with power := { s.power with reset := .pending } }, .now .done [])

/-- RESET (R147). -/
def execReset (body : List Byte) (s : State) : Host.Outcome State Fault Refusal :=
  request codeReset body (body.length == 0) takeReset s

end Sys2Proof.Machine
end

