-- ==== Sys2Proof/Machine/SequencerRequests.lean ====
section
/-! DEFINITION. The commands of the Contactor Sequencer (chapter 6): its five requests, the notices and reference samples
that reach it, and the expiries of its timer. -/

namespace Sys2Proof.Machine

/-- CLOSE (R106). -/
def execClose (body : List Byte) (s : State) : Host.Outcome State Fault Refusal :=
  request codeClose body (body.length == 0) takeClose s

/-- OPEN (R112). -/
def execOpenRequest (body : List Byte) (s : State) : Host.Outcome State Fault Refusal :=
  request codeOpen body (body.length == 0) takeOpen s

/-- TRIP (R114). -/
def execTrip (body : List Byte) (s : State) : Host.Outcome State Fault Refusal :=
  request codeTrip body (body.length == 0) takeTrip s

/-- CLRLOCK (R122). -/
def execClrlock (body : List Byte) (s : State) : Host.Outcome State Fault Refusal :=
  request codeClrlock body (body.length == 0) takeClrlock s

/-- QCONT (R126). -/
def execQcont (body : List Byte) (s : State) : Host.Outcome State Fault Refusal :=
  request codeQcont body (body.length == 0) takeQcont s

/-- R40: the oldest notice is taken from the queue. -/
def State.dropNotice (s : State) : State := { s with table := { s.table with notices := s.table.notices.tail } }

/-- R40: the oldest notice reaches the sequencer when it is an inhibit notice (log 15). -/
def State.deliverInhibit (s : State) : State :=
  match s.table.notices with
  | .inhibit id :: _ => s.dropNotice.inhibitAtSequencer id
  | .trip _ :: _ => s
  | .reference _ _ :: _ => s
  | [] => s

/-- R41: the oldest notice reaches the sequencer when it is a trip notice (log 15). -/
def State.deliverTrip (s : State) : State :=
  match s.table.notices with
  | .trip id :: _ => s.dropNotice.tripAtSequencer id
  | .inhibit _ :: _ => s
  | .reference _ _ :: _ => s
  | [] => s

/-- R102: the oldest notice reaches the sequencer when it is a reference sample (log 15). -/
def State.deliverReference (s : State) : State :=
  match s.table.notices with
  | .reference id v :: _ => s.dropNotice.referenceAtSequencer id v
  | .inhibit _ :: _ => s
  | .trip _ :: _ => s
  | [] => s

/-- INHIBIT_NOTICE (R111). -/
def execInhibitNotice (s : State) : Host.Outcome State Fault Refusal := event State.deliverInhibit s

/-- TRIP_NOTICE (R115). -/
def execTripNotice (s : State) : Host.Outcome State Fault Refusal := event State.deliverTrip s

/-- REFERENCE_SAMPLE (R102). -/
def execReferenceSample (s : State) : Host.Outcome State Fault Refusal := event State.deliverReference s

/-- AUX_CONFIRM_EXPIRY (R108, R110). -/
def execAuxConfirmExpiry (s : State) : Host.Outcome State Fault Refusal := event State.auxConfirmExpired s

/-- PRECHARGE_TIMEOUT_EXPIRY (R109). -/
def execPrechargeTimeoutExpiry (s : State) : Host.Outcome State Fault Refusal := event State.prechargeExpired s

/-- DEFER_MAX_EXPIRY (R113). -/
def execDeferMaxExpiry (s : State) : Host.Outcome State Fault Refusal := event State.deferExpired s

/-- DROPOUT_EXPIRY (R119). -/
def execDropoutExpiry (s : State) : Host.Outcome State Fault Refusal := event State.dropoutExpired s

end Sys2Proof.Machine
end

