-- ==== Sys2Proof/Machine/Verification.lean ====
section
/-! DEFINITION. Chapter 9: the tags (R170, R181, R197), the validation of a commit (R171) and the completion of its
verification (R168, R173). -/

namespace Sys2Proof.Machine

/-! ## Tags (R170, R181, R197) -/

def deviceBytes : List Byte := (List.range 8).map (fun i => (Config.deviceNumber >>> (8 * i)).setWidth 8)

/-- R170, R197: the commit message. -/
def commitMessage (version : Word32) (stage : List Item) : List Byte :=
  [0x55] ++ deviceBytes ++ leWord32 version ++ le8 stage.length ++ stage.flatMap Item.encode

/-- R181, R197: the CLRTAMP message. -/
def tamperMessage (count : Word32) : List Byte := [0xA7] ++ deviceBytes ++ leWord32 count

/-- The key of a tag: the live key. -/
def State.tagKey (s : State) : List Byte := (s.engine.key.map (·.toList)).getD []

/-- R170: the commit tag matches in all 32 bytes. -/
def State.commitTagMatches (s : State) : Bool :=
  s.engine.commitTag == some (hmacSha256 s.tagKey (commitMessage (s.engine.version.getD 0) s.engine.stage))

/-- R181: the CLRTAMP tag matches. -/
def State.tamperTagMatches (s : State) (tag : List Byte) : Bool :=
  tag == hmacSha256 s.tagKey (tamperMessage s.engine.tamperCount)

/-! ## The resulting table (R171) -/

/-- R171: what the live table holds for an id: the live definition with its pending fields merged in. -/
def Point.merged? : Point → Option Definition
  | .live d _ (some (.fields c)) => some (c.applyTo d)
  | .live d _ (some .retire) => some d
  | .live d _ none => some d
  | .enlisting d => some d
  | .vacant => none

/-- The live table, profile and parameters in the form of an image. -/
def State.tableImage (s : State) : Image :=
  { points := s.table.points.map Point.merged?, profile := s.seq.profile, frame := s.clock.active }

/-- R171: the live table with the stage applied. -/
def State.resultingTable (s : State) : Image := s.tableImage.applyAll s.engine.stage

/-- R171: the resulting slot count. -/
def State.resultingSlotCount (s : State) : Nat :=
  match s.clock.waiting with
  | some p => min p.slotCount s.resultingImage.frame.slotCount
  | none => s.resultingImage.frame.slotCount

/-! ## The checks (R171): each answers the item index to report when it fails (log 22) -/

/-- The lowest index, from 1, of a staged item that satisfies a test. -/
def State.firstItem (s : State) (p : Item → Bool) : Option Nat := (s.engine.stage.findIdx? p).map (· + 1)

/-- The id of a REMOVE item. -/
def Item.removes? : Item → Option Nat
  | .remove id => some id
  | .point _ _ => none
  | .group _ => none
  | .profile _ => none
  | .frame _ => none

/-- The id and definition of a POINT item. -/
def Item.point? : Item → Option (Nat × Definition)
  | .point id d => some (id, d)
  | .remove _ => none
  | .group _ => none
  | .profile _ => none
  | .frame _ => none

/-- The ids whose definition in an image satisfies a test, ascending. -/
def Image.idsOf (i : Image) (p : Definition → Bool) : List Nat := idsWhere (fun id => (i.point id).any p)

/-- An id is named as a member by an aggregate of an image. -/
def Image.hasMember (i : Image) (id : Nat) : Bool :=
  i.points.toList.any (fun x => x.any (fun d => d.kind.isAggregate && d.members.contains id))

def Profile.names (p : Profile) (id : Nat) : Bool := p.packPoint == id || p.busPoint == id || p.currentPoint == id

/-- Check 1, NOT_STORED. -/
def State.checkNotStored (s : State) : Option (Option Nat) :=
  (s.firstItem (fun x => x.removes?.any (fun id => (s.activeImage.point id).isNone))).map some

/-- Check 2, REFERENCED. -/
def State.checkReferenced (s : State) : Option (Option Nat) :=
  let image := s.resultingImage
  let table := s.resultingTable
  (s.firstItem (fun x => x.removes?.any (fun id =>
    image.hasMember id || table.hasMember id || image.profile.any (fun p => p.names id)))).map some

/-- The kinds of the members that an image holds. -/
def Image.memberKinds (i : Image) (d : Definition) : List Kind :=
  d.members.filterMap (fun m => (i.point m).map (·.kind))

/-- R171: the kind of a member that an image holds is at fault: no cell kind, or another cell kind than some member's
(log 22). -/
def Image.memberKindBad (i : Image) (d : Definition) (m : Nat) : Bool :=
  (i.point m).any (fun x => !x.kind.isCell || (i.memberKinds d).any (fun k => k.isCell && k != x.kind))

/-- Check 3 for one aggregate of an image: each of its members counts as there, and its kind is not at fault. -/
def Image.membersOk (i : Image) (isThere : Nat → Bool) (d : Definition) : Bool :=
  d.members.all (fun m => isThere m && !i.memberKindBad d m)

/-- Check 3: a member of an aggregate of the resulting image is there when the image stores it. -/
def Image.stores (i : Image) (m : Nat) : Bool := (i.point m).isSome

/-- Check 3: a member of an aggregate of the resulting table is there when it will be LIVE. -/
def State.willBeLive (s : State) (table : Image) (m : Nat) : Bool := table.stores m && !(s.point m).retireMarked

/-- The aggregates of an image that fail a test. -/
def Image.failing (i : Image) (ok : Definition → Bool) : List (Nat × Definition) :=
  tableIds.filterMap (fun id => (i.point id).bind (fun d =>
    if d.kind.isAggregate && !ok d then some (id, d) else none))

/-- R171: a POINT item concerns a failing aggregate of the image `after` when it defines it, or when it gave one of its
members the kind that is at fault; a member that is not there was changed by no POINT item (log 22). -/
def itemConcerns (before after : Image) (aggregates : List (Nat × Definition)) (x : Item) : Bool :=
  x.point?.any (fun y => aggregates.any (fun a =>
    a.1 == y.1 || (a.2.members.contains y.1 && after.memberKindBad a.2 y.1 &&
      (before.point y.1).map (·.kind) != some y.2.kind)))

/-- The lower of two item indexes. -/
def lowerIndex : Option Nat → Option Nat → Option Nat
  | some a, some b => some (min a b)
  | some a, none => some a
  | none, b => b

/-- Check 3, MEMBERS. -/
def State.checkMembers (s : State) : Option (Option Nat) :=
  let image := s.resultingImage
  let table := s.resultingTable
  let badStored := image.failing (image.membersOk image.stores)
  let badLive := table.failing (table.membersOk (s.willBeLive table))
  if badStored.isEmpty && badLive.isEmpty then none
  else
    some (lowerIndex (s.firstItem (itemConcerns s.activeImage image badStored))
      (s.firstItem (itemConcerns s.tableImage table badLive)))

/-- R2: another chain point of the image holds the source of this one. -/
def Image.sourceShared (i : Image) (id : Nat) (d : Definition) : Bool :=
  d.kind.isCell && !(i.idsOf (fun e =>
    e.kind == d.kind && e.monitor == d.monitor && e.channel == d.channel)).all (· == id)

def Image.anyShared (i : Image) : Bool :=
  tableIds.any (fun id => (i.point id).any (fun d => i.sourceShared id d))

/-- Check 4, SOURCE. -/
def State.checkSource (s : State) : Option (Option Nat) :=
  let image := s.resultingImage
  let table := s.resultingTable
  if image.anyShared || table.anyShared then
    some (s.firstItem (fun x => x.point?.any (fun y => image.sourceShared y.1 y.2 || table.sourceShared y.1 y.2)))
  else none

/-- Check 5 at one GROUP item, on an image as the items before it left it. -/
def GroupItem.leavesBad (g : GroupItem) (i : Image) : Bool :=
  i.points.toList.any (fun x => x.any (fun d =>
    g.reaches d && !((g.applyTo d).limits.ascending && (g.applyTo d).canOpen)))

/-- Check 5 along the stage, from index `n`, on the image and the table as they are built up. -/
def firstBadGroup (n : Nat) (image table : Image) : List Item → Option Nat
  | [] => none
  | x :: rest =>
    match x with
    | .group g =>
      if g.leavesBad image || g.leavesBad table then some n
      else firstBadGroup (n + 1) (image.applyItem x) (table.applyItem x) rest
    | _ => firstBadGroup (n + 1) (image.applyItem x) (table.applyItem x) rest

/-- Check 5, LIMITS. -/
def State.checkLimits (s : State) : Option (Option Nat) :=
  (firstBadGroup 1 s.activeImage s.tableImage s.engine.stage).map some

/-- R101, R171: a reference names a stored GUARDED point of its kind with divider 1. -/
def Image.referenceOk (i : Image) (id : Nat) (k : Kind) : Bool :=
  (i.point id).any (fun d => d.guard == .guarded && d.kind == k && d.divider == 1)

def Image.profileOk (i : Image) : Bool :=
  i.profile.all (fun p =>
    i.referenceOk p.packPoint .packV && i.referenceOk p.busPoint .busV && i.referenceOk p.currentPoint .packI)

/-- Check 6, PROFILE_REF. -/
def State.checkProfileRef (s : State) : Option (Option Nat) :=
  let image := s.resultingImage
  if image.profileOk then none
  else
    let bad := fun (id : Nat) => image.profile.any (fun p =>
      (p.packPoint == id && !image.referenceOk id .packV) || (p.busPoint == id && !image.referenceOk id .busV) ||
        (p.currentPoint == id && !image.referenceOk id .packI))
    some (s.firstItem (fun x => x.profile?.isSome || x.point?.any (fun y => bad y.1)))

/-- A slot of an image is not below a slot count. -/
def Image.slotBeyond (i : Image) (count : Nat) : Bool :=
  i.points.toList.any (fun x => x.any (fun d => d.slot.any (count ≤ ·)))

/-- Check 7, SLOT. -/
def State.checkSlot (s : State) : Option (Option Nat) :=
  let count := s.resultingSlotCount
  if s.resultingImage.slotBeyond count || s.resultingTable.slotBeyond count then
    if s.stagedFrame?.isSome then some (s.firstItem (fun x => x.frame?.isSome))
    else some (s.firstItem (fun x => x.point?.any (fun y => y.2.slot.any (count ≤ ·))))
  else none

/-- Check 8, SEQUENCER. -/
def State.checkSequencer (s : State) : Option (Option Nat) :=
  if s.stagedProfile?.isSome && s.seq.state != .opened && s.seq.state != .lockout then
    some (s.firstItem (fun x => x.profile?.isSome))
  else none

/-- The first check of a list that fails. -/
def firstFailure : List (InvalidReason × Option (Option Nat)) → Option (InvalidReason × Option Nat)
  | [] => none
  | (r, some i) :: _ => some (r, i)
  | (_, none) :: rest => firstFailure rest

/-- R171: the checks in order; none when all pass. -/
def State.validate (s : State) : Option (InvalidReason × Option Nat) :=
  firstFailure
    [(.notStored, s.checkNotStored), (.referenced, s.checkReferenced), (.members, s.checkMembers),
     (.source, s.checkSource), (.limits, s.checkLimits), (.profileRef, s.checkProfileRef), (.slot, s.checkSlot),
     (.sequencer, s.checkSequencer)]

/-! ## The completion (R168, R170, R173) -/

/-- R173: the entry to WRITING requests the bank write of the resulting image. -/
def State.startWriting (s : State) : State :=
  ({ s with engine := { s.engine with state := .writing, commitTag := none } }).requestBankWrite
    { version := s.engine.version.getD 0, image := s.resultingImage }

/-- R168: the completion of the verification; after TAMPERED or ABANDONED it finds no VERIFYING and is discarded. -/
def State.verified (s : State) : State :=
  match s.engine.state with
  | .verifying =>
    if !s.commitTagMatches then s.endTransaction .tagBad none none
    else
      match s.validate with
      | some (reason, index) => s.endTransaction .invalid index (some reason)
      | none => s.startWriting
  | .idle => s
  | .staging => s
  | .writing => s
  | .applying => s

end Sys2Proof.Machine
end

