-- ==== Sys2Proof/Machine/UpdateRequests.lean ====
section
/-! DEFINITION. The commands of the Update Engine (chapter 9): its requests and the completion of a verification. -/

namespace Sys2Proof.Machine

/-! ## UOPEN (R165) -/

/-- R165: a transaction is opened. -/
def State.openTransaction (version : Word32) (s : State) : State :=
  { s with engine := { s.engine with state := .staging, stage := [], version := some version, commitTag := none } }

def takeUopen (b : List Byte) (s : State) : State × Reply :=
  if s.power.state ≠ .active then refuse .starting s
  else if b.length ≠ 4 then refuse .badArgument s
  else if s.engine.state ≠ .idle then refuse .state s
  else if s.engine.key.isNone then refuse .noKey s
  else if s.engine.tamperLatch then refuse .tampered s
  else if (word32 b 0).toNat ≤ s.store.activeVersion.toNat then refuse .rollback s
  else (s.openTransaction (word32 b 0), .now .done [])

/-- UOPEN (R165). -/
def execUopen (body : List Byte) (s : State) : Host.Outcome State Fault Refusal :=
  request codeUopen body true (takeUopen body) s

/-! ## USTAGE (R166, R167) -/

/-- R166: two items have the same target. -/
def Item.sameTarget (x y : Item) : Bool :=
  match x with
  | .point id _ => y.targets id
  | .remove id => y.targets id
  | .group g =>
    (match y with
      | .group h => g.kind == h.kind && g.first == h.first && g.last == h.last
      | .point _ _ => false
      | .remove _ => false
      | .profile _ => false
      | .frame _ => false)
  | .profile _ => y.profile?.isSome
  | .frame _ => y.frame?.isSome

/-- R167: a target that waits for a frame start: ENLISTING, or holding a pending part. -/
def Point.waits : Point → Bool
  | .enlisting _ => true
  | .live _ _ p => p.isSome
  | .vacant => false

/-- R167: the PENDING test. -/
def State.itemWaits (s : State) (x : Item) : Bool :=
  match x with
  | .point id _ => (s.point id).waits
  | .remove id => (s.point id).waits
  | .frame _ => s.clock.waiting.isSome
  | .group _ => false
  | .profile _ => false

/-- R166: an item replaces the one for its target in its position, or is appended. -/
def placeItem (x : Item) (stage : List Item) : List Item :=
  match stage.findIdx? x.sameTarget with
  | some i => stage.set i x
  | none => stage ++ [x]

/-- R166: the index of an item's target, from 1. -/
def itemIndex (x : Item) (stage : List Item) : Nat :=
  match stage.findIdx? x.sameTarget with
  | some i => i + 1
  | none => stage.length + 1

def takeUstage (b : List Byte) (s : State) : State × Reply :=
  if s.engine.state ≠ .staging then refuse .noStage s
  else
    match Item.decode b with
    | none => refuse .badArgument s
    | some x =>
      if !x.wellFormed then refuse .badArgument s
      else if s.itemWaits x then refuse .waiting s
      else if 32 ≤ s.engine.stage.length ∧ s.engine.stage.any x.sameTarget = false then refuse .stageFull s
      else
        let stage := placeItem x s.engine.stage
        ({ s with engine := { s.engine with stage := stage } },
          .now .done (le8 (itemIndex x s.engine.stage) ++ le8 stage.length))

/-- USTAGE (R167). -/
def execUstage (body : List Byte) (s : State) : Host.Outcome State Fault Refusal :=
  request codeUstage body (ustageLengthOk body) (takeUstage body) s

/-! ## UCOMMIT and UABANDON (R168, R179) -/

/-- R168: an open transaction's items, submitted with a tag. -/
def commitStaging (b : List Byte) (s : State) : State × Reply :=
  if s.engine.stage.isEmpty then refuse .noStage s
  else if b.length ≠ 32 then refuse .badArgument s
  else ({ s with engine := { s.engine with state := .verifying, commitTag := some b } }, .now .accepted [])

def takeUcommit (b : List Byte) (s : State) : State × Reply :=
  match s.engine.state with
  | .idle => refuse .noStage s
  | .staging => commitStaging b s
  | .verifying => refuse .state s
  | .writing => refuse .state s
  | .applying => refuse .state s

/-- UCOMMIT (R168). -/
def execUcommit (body : List Byte) (s : State) : Host.Outcome State Fault Refusal :=
  request codeUcommit body true (takeUcommit body) s

def takeUabandon (s : State) : State × Reply :=
  match s.engine.state with
  | .idle => refuse .noStage s
  | .staging => (s.endTransaction .abandoned none none, .now .done [])
  | .verifying => (s.endTransaction .abandoned none none, .now .done [])
  | .writing => refuse .busy s
  | .applying => refuse .busy s

/-- UABANDON (R179). -/
def execUabandon (body : List Byte) (s : State) : Host.Outcome State Fault Refusal :=
  request codeUabandon body (body.length == 0) takeUabandon s

/-! ## QSTORE (R183) -/

def bankByte : Option BankId → Byte
  | some .bank0 => 0
  | some .bank1 => 1
  | none => 0xFF

def slotByte : Option SlotId → Byte
  | some .caA => 0
  | some .caB => 1
  | none => 0xFF

def copyByte : Option CopyId → Byte
  | some .copyA => 0
  | some .copyB => 1
  | none => 0xFF

def outcomeBytes : Option OutcomeRecord → List Byte
  | some o =>
    le8 o.outcome.code ++ leWord32 o.version ++ le8 (o.itemIndex.getD 0) ++ le8 ((o.reason.map InvalidReason.code).getD 0)
  | none => List.replicate 7 0

def qstoreBody (s : State) : List Byte :=
  le8 s.store.state0.code ++ le8 s.store.state1.code ++ [bankByte s.store.activeBank] ++
    leWord32 s.store.activeVersion ++ [s.store.findings.toByte] ++ leWord32 s.store.sequence ++
    [slotByte s.store.slotInForce] ++ leWord16 s.store.failures ++ [copyByte s.store.keyInForce] ++
    le8 s.engine.state.code ++ optWord32 s.engine.version ++ le8 s.engine.stage.length ++
    s.engine.stage.flatMap (fun x => le8 x.kindCode ++ x.targetBytes) ++ outcomeBytes s.engine.outcome ++
    [boolByte s.engine.tamperLatch] ++ leWord32 s.engine.tamperCount ++
    [boolByte s.engine.key.isSome, boolByte s.engine.finalLock]

def takeQstore (s : State) : State × Reply :=
  (((s.clear .update).clear .store).clear .tamper, .now .done (qstoreBody s))

/-- QSTORE (R183). -/
def execQstore (body : List Byte) (s : State) : Host.Outcome State Fault Refusal :=
  request codeQstore body (body.length == 0) takeQstore s

/-! ## KEYINST and FINLOCK (R163, R164) -/

/-- R156, R163, R164: the key write is requested; the answer waits for its end, or is FAILED at once. -/
def writeKey (r : KeyRecord) (code : Byte) (s : State) : State × Reply :=
  let t := s.startKeyWrite r code
  if t.2 then (t.1, .later) else (t.1, .now .done [1])

def takeKeyinst (b : List Byte) (s : State) : State × Reply :=
  if b.length ≠ 32 then refuse .badArgument s
  else if s.engine.finalLock then refuse .locked s
  else if s.storeBusy then refuse .busy s
  else if s.engine.state ≠ .idle then refuse .state s
  else writeKey { key := some (areaOf 32 b), finalLock := false } codeKeyinst s

/-- KEYINST (R163). -/
def execKeyinst (body : List Byte) (s : State) : Host.Outcome State Fault Refusal :=
  request codeKeyinst body true (takeKeyinst body) s

def takeFinlock (s : State) : State × Reply :=
  if s.engine.finalLock then refuse .locked s
  else if s.engine.key.isNone then refuse .noKey s
  else if s.storeBusy then refuse .busy s
  else writeKey { key := s.engine.key, finalLock := true } codeFinlock s

/-- FINLOCK (R164). -/
def execFinlock (body : List Byte) (s : State) : Host.Outcome State Fault Refusal :=
  request codeFinlock body (body.length == 0) takeFinlock s

/-! ## CLRTAMP (R181) -/

/-- R181: the latch becomes clear, the count is kept, a counter write is requested. -/
def State.clearTamper (s : State) : State :=
  ({ s with engine := { s.engine with tamperLatch := false } }).requestCounterWrite false

def takeClrtamp (b : List Byte) (s : State) : State × Reply :=
  if b.length ≠ 32 then refuse .badArgument s
  else if s.engine.tamperLatch = false then refuse .state s
  else if s.engine.key.isNone then refuse .noKey s
  else if s.tamperTagMatches b = false then refuse .tagBad s
  else (s.clearTamper, .now .done [])

/-- CLRTAMP (R181). -/
def execClrtamp (body : List Byte) (s : State) : Host.Outcome State Fault Refusal :=
  request codeClrtamp body true (takeClrtamp body) s

/-! ## VERIFY_COMPLETE (R168, R171) -/

/-- VERIFY_COMPLETE (R171). -/
def execVerifyComplete (s : State) : Host.Outcome State Fault Refusal := event State.verified s

end Sys2Proof.Machine
end

