-- ==== Sys2Proof/Machine/Dispatch.lean ====
section
/-! DEFINITION. One arm per command: the effect of each on everything but the queue. -/

namespace Sys2Proof.Machine

def exec (i : Instr) (s : State) : Host.Outcome State Fault Refusal :=
  match i with
  | .powerOn => Sys2Proof.Machine.execPowerOn s
  | .powerLoss => Sys2Proof.Machine.execPowerLoss s
  | .storeLoadEnd => Sys2Proof.Machine.execStoreLoadEnd s
  | .writeTransactionBegin => Sys2Proof.Machine.execWriteTransactionBegin s
  | .readTransaction clocked => Sys2Proof.Machine.execReadTransaction clocked s
  | .frameError frame => Sys2Proof.Machine.execFrameError frame s
  | .unknownRequest code body => Sys2Proof.Machine.execUnknownRequest code body s
  | .enlist body => Sys2Proof.Machine.execEnlist body s
  | .lookup body => Sys2Proof.Machine.execLookup body s
  | .amend body => Sys2Proof.Machine.execAmend body s
  | .amendg body => Sys2Proof.Machine.execAmendg body s
  | .retire body => Sys2Proof.Machine.execRetire body s
  | .release body => Sys2Proof.Machine.execRelease body s
  | .changes body => Sys2Proof.Machine.execChanges body s
  | .qinhib body => Sys2Proof.Machine.execQinhib body s
  | .setfrm body => Sys2Proof.Machine.execSetfrm body s
  | .qfrm body => Sys2Proof.Machine.execQfrm body s
  | .spot body => Sys2Proof.Machine.execSpot body s
  | .discov body => Sys2Proof.Machine.execDiscov body s
  | .mstat body => Sys2Proof.Machine.execMstat body s
  | .qchain body => Sys2Proof.Machine.execQchain body s
  | .close body => Sys2Proof.Machine.execClose body s
  | .openRequest body => Sys2Proof.Machine.execOpenRequest body s
  | .trip body => Sys2Proof.Machine.execTrip body s
  | .clrlock body => Sys2Proof.Machine.execClrlock body s
  | .qcont body => Sys2Proof.Machine.execQcont body s
  | .sleep body => Sys2Proof.Machine.execSleep body s
  | .wake body => Sys2Proof.Machine.execWake body s
  | .qpower body => Sys2Proof.Machine.execQpower body s
  | .reset body => Sys2Proof.Machine.execReset body s
  | .uopen body => Sys2Proof.Machine.execUopen body s
  | .ustage body => Sys2Proof.Machine.execUstage body s
  | .ucommit body => Sys2Proof.Machine.execUcommit body s
  | .uabandon body => Sys2Proof.Machine.execUabandon body s
  | .qstore body => Sys2Proof.Machine.execQstore body s
  | .keyinst body => Sys2Proof.Machine.execKeyinst body s
  | .finlock body => Sys2Proof.Machine.execFinlock body s
  | .clrtamp body => Sys2Proof.Machine.execClrtamp body s
  | .status body => Sys2Proof.Machine.execStatus body s
  | .mask body => Sys2Proof.Machine.execMask body s
  | .ident body => Sys2Proof.Machine.execIdent body s
  | .frameStart => Sys2Proof.Machine.execFrameStart s
  | .slotStart => Sys2Proof.Machine.execSlotStart s
  | .captureDelivery converter reading => Sys2Proof.Machine.execCaptureDelivery converter reading s
  | .blockReply message => Sys2Proof.Machine.execBlockReply message s
  | .readWaitExpiry => Sys2Proof.Machine.execReadWaitExpiry s
  | .enumDelayExpiry => Sys2Proof.Machine.execEnumDelayExpiry s
  | .enumReply message => Sys2Proof.Machine.execEnumReply message s
  | .enumSilenceExpiry => Sys2Proof.Machine.execEnumSilenceExpiry s
  | .sleepTimerExpiry => Sys2Proof.Machine.execSleepTimerExpiry s
  | .lineSample levels => Sys2Proof.Machine.execLineSample levels s
  | .inhibitNotice => Sys2Proof.Machine.execInhibitNotice s
  | .tripNotice => Sys2Proof.Machine.execTripNotice s
  | .referenceSample => Sys2Proof.Machine.execReferenceSample s
  | .auxConfirmExpiry => Sys2Proof.Machine.execAuxConfirmExpiry s
  | .prechargeTimeoutExpiry => Sys2Proof.Machine.execPrechargeTimeoutExpiry s
  | .deferMaxExpiry => Sys2Proof.Machine.execDeferMaxExpiry s
  | .dropoutExpiry => Sys2Proof.Machine.execDropoutExpiry s
  | .counterWriteEnd readBackMatches => Sys2Proof.Machine.execCounterWriteEnd readBackMatches s
  | .bankWriteUnitEnd readBackMatches => Sys2Proof.Machine.execBankWriteUnitEnd readBackMatches s
  | .keyWriteEnd readBackMatches => Sys2Proof.Machine.execKeyWriteEnd readBackMatches s
  | .verifyComplete => Sys2Proof.Machine.execVerifyComplete s

end Sys2Proof.Machine
end

