-- ==== Sys2Proof/Safety.lean ====
section
/-! DEFINITION. What it means for a step to be safe, and the properties of a state that every step is to keep. -/

namespace Sys2Proof.Machine

/-- The machine goes on: no fault, no refusal. -/
def State.goesOn (s : State) : Prop := ∃ t, step s = .next t

/-- R103, R127, R191: the pins are at the levels the state asks for. -/
def State.pinsFollow (s : State) : Prop := s.pins = s.levels

/-- Both bank memories are in canonical form. -/
def State.banksCanonical (s : State) : Prop := s.store.bank0.wf = true ∧ s.store.bank1.wf = true

/-- R44: the cause POINTS stands exactly while the changed-point set holds an id. -/
def State.pointsCauseExact (s : State) : Prop := s.attention.set.points = !s.table.changedSet.isEmpty

/-- R39: the inhibit set holds, without repetition, exactly the points that belong in it. -/
def State.inhibitSetExact (s : State) : Prop :=
  (∀ id, id ∈ s.table.inhibitSet ↔ (s.point id).inhibits = true) ∧ s.table.inhibitSet.Pairwise (· < ·)

/-- R131, R136: the power states on the way into sleep, in it, and on the way out. -/
def PowerState.low : PowerState → Bool
  | .settling => true
  | .deepSleep => true
  | .sleepFrame => true
  | .waking => true
  | .loading => false
  | .discovering => false
  | .active => false

/-- A sleep round is in progress. -/
def State.inSleepRound (s : State) : Prop := ∃ r, s.chain.round = some r ∧ r.inSleep = true

/-- A sleep enumeration is in progress. -/
def State.inSleepEnumeration (s : State) : Prop := ∃ e, s.chain.enumeration = some e ∧ e.purpose = .sleepFrame

/-- R136: on the way into sleep and in it the sequencer is OPEN or LOCKOUT; sleep rounds and sleep enumerations belong to
SLEEP_FRAME, one at a time. -/
def State.restsInSleep (s : State) : Prop :=
  (s.power.state.low = true → s.seq.state.atRest = true) ∧
    (s.inSleepRound → s.power.state = .sleepFrame) ∧
    (s.inSleepEnumeration → s.power.state = .sleepFrame) ∧ ¬(s.inSleepRound ∧ s.inSleepEnumeration)

/-! ## Counter write requests, as statements speak of them (R152, R154, R155) -/

/-- R154: the counter write that starts from this Store with a snapshot: into the slot not in force, or CA_A with none in
force, with the next sequence. -/
def Store.nextCounterWrite (x : Store) (forSettling : Bool) (snapshot : CounterSnapshot) : CounterWrite :=
  { slot := match x.slotInForce with
      | some .caA => .caB
      | some .caB => .caA
      | none => .caA
    sequence := x.sequence + 1, snapshot := snapshot, forSettling := forSettling }

/-- R152, R155: the Store after a counter write request: with nothing in flight the write is in flight, else the request
is carried by the pending counter write. -/
def Store.requested (x : Store) (forSettling : Bool) (snapshot : CounterSnapshot) : Store :=
  match x.inFlight with
  | .none => { x with inFlight := .counter (x.nextCounterWrite forSettling snapshot) }
  | _ => { x with counterPending := true, settlingWaits := x.settlingWaits || forSettling }

/-- R124, R125: a counter write has been requested and CONTACTOR raised. -/
def State.recorded (s : State) : State :=
  { s with
    store := s.store.requested false s.snapshot
    attention := { s.attention with set := { s.attention.set with contactor := true } } }

/-- The bytes of a counter slot. -/
def Store.slotBytes (x : Store) : SlotId → List Byte
  | .caA => x.slotA.toList
  | .caB => x.slotB.toList

/-- The bytes of a key copy. -/
def Store.copyBytes (x : Store) : CopyId → List Byte
  | .copyA => x.keyA.toList
  | .copyB => x.keyB.toList

/-! ## Line samples, as statements speak of them (R95, R97) -/

/-- A sample that changes no level. -/
def LineChanges.none : LineChanges := { auxNeg := .none, auxPos := .none, crash := .none, wake := .none, lid := .none }

/-- A sample whose one change is an auxiliary edge of this main, to CLOSED or to OPEN, with its stamp. -/
def LineChanges.edge (m : Main) (closed : Bool) (stamp : Word32) : LineChanges :=
  match m with
  | .neg => { LineChanges.none with auxNeg := some (closed, stamp) }
  | .pos => { LineChanges.none with auxPos := some (closed, stamp) }

/-! ## The path of a request, as statements speak of it (R185, R187 to R189) -/

/-- A write transaction is ending that no RESET discards: one has begun and no RESET is held, or the command brings its own
beginning and no RESET is pending or held. -/
def State.arrives (s : State) : Prop :=
  s.vsup = true ∧
    ((s.port.writeTx = .begun ∧ s.power.reset ≠ .held) ∨ (s.port.writeTx = .none ∧ s.power.reset = .none))

/-- A request arrives that the power state hands to its owner (R130). -/
def State.hands (s : State) (code : Byte) : Prop := s.arrives ∧ gate s.power.state code = .handed

/-- The write transaction of a body of `n` bytes has ended: the part has shifted out 0xFF for each of its bytes. -/
def State.transacted (n : Nat) (s : State) : State :=
  { s with port := { s.port with writeTx := .none, hsdo := List.replicate (4 + n) 0xFF } }

/-- A state with an answer to a body of `n` bytes in the slot and the pins at its levels. -/
def State.answered (code : Byte) (n : Nat) (a : AnswerCode) (reply : List Byte) (s : State) : State :=
  ((s.transacted n).setSlot (.holding (answerFrame code a reply))).drive

end Sys2Proof.Machine
end

