-- ==== Sys2Proof/Certificates/Slice0/Obligations.lean ====
section
/-! DEFINITION. The statements for the provers. A statement whose conclusion is `exec c s = .next t` says that the command
completes, what it changes, and that nothing else changes: `t` names every difference from `s`. -/

open Sys2Proof Sys2Proof.Machine

/-! ## Steps, the queue, the state after reset -/

/-- A step takes the command at the front of the queue and runs it with the queue's rest. -/
def Obligations.StepRunsTheFrontCommand : Prop :=
  ∀ (s : State) (c : Instr) (rest : List Instr), s.pending = c :: rest → step s = exec c { s with pending := rest }

/-- The model's own clock (log 2): on an empty queue a powered part's sense time advances by one count, and between two
whole milliseconds nothing else happens. -/
def Obligations.IdleStepAdvancesSenseTime : Prop :=
  ∀ s : State, s.pending = [] → s.vsup = true →
    ∃ t, step s = .next t ∧ t.sense.time = s.sense.time + 1 ∧
      ((s.sense.time + 1).toNat % 10 ≠ 0 →
        t = ({ s with sense := { s.sense with time := s.sense.time + 1 } }).drive)

/-- Every command leaves the queue of waiting commands as it is. -/
def Obligations.CommandsLeaveTheQueue : Prop :=
  ∀ (c : Instr) (s t : State), exec c s = .next t → t.pending = s.pending

/-- What start-up gives at the entry to LOADING, and the invariants of this file, hold right after reset. -/
def Obligations.ResetStateStartsUp : Prop :=
  State.reset.power.state = .loading ∧
    State.reset.power.record =
      { causes := { WakeCauses.none with powerOn := true }, firstPoint := none, sleepFrames := 0, entryFrame := none } ∧
    State.reset.attention = { set := { Causes.none with power := true }, mask := .all } ∧
    State.reset.port.slot = .empty ∧ State.reset.clock.phase = .stopped ∧ State.reset.clock.number = 0 ∧
    State.reset.chain.tag = 0 ∧ (∀ a, (State.reset.entry a).state = .absent) ∧ State.reset.sense.time = 0 ∧
    State.reset.engine.state = .idle ∧ State.reset.pins = { attn := true, hen := true, drvNeg := false, drvPre := false, drvPos := false } ∧
    State.reset.pinsFollow ∧ State.reset.banksCanonical ∧ State.reset.pointsCauseExact ∧
    State.reset.inhibitSetExact ∧ State.reset.restsInSleep

/-! ## Invariants of every step -/

/-- ATTN, HEN and the coil drivers follow the state through every step. -/
def Obligations.StepKeepsPinsFollowing : Prop :=
  ∀ s t : State, s.pinsFollow → step s = .next t → t.pinsFollow

/-- The bank memories keep their canonical form through every step. -/
def Obligations.StepKeepsBanksCanonical : Prop :=
  ∀ s t : State, s.banksCanonical → step s = .next t → t.banksCanonical

/-- R44: POINTS stands exactly while the changed-point set holds an id, and ATTN follows it as the mask and HEN allow. -/
def Obligations.StepKeepsPointsCauseExact : Prop :=
  ∀ s t : State, s.pointsCauseExact → s.pinsFollow → step s = .next t →
    t.attention.set.points = !t.table.changedSet.isEmpty ∧
      (t.vsup = true → t.pins.attn = (t.pins.hen && t.attention.set.meets t.attention.mask))

/-- R39: the inhibit set holds exactly the points that belong in it, through every step. -/
def Obligations.StepKeepsInhibitSetExact : Prop :=
  ∀ s t : State, s.inhibitSetExact → step s = .next t → t.inhibitSetExact

/-- R136: on the way into sleep, in it and on the way out the sequencer is OPEN or LOCKOUT, through every step. -/
def Obligations.StepKeepsSequencerAtRestInSleep : Prop :=
  ∀ s t : State, s.restsInSleep → step s = .next t → t.restsInSleep

/-! ## Formats -/

/-- Decoding the transaction that a port command stands for gives the command back, with every operand. -/
def Obligations.TransactionDecodesToItsCommand : Prop :=
  ∀ (i : Instr) (bytes : List Byte), i.wellFormed = true → i.encode = some bytes → decodeTransaction bytes = some i

/-- R149, R166, 11.4, 11.7: every well-formed item, and every image of well-formed definitions, profile and parameters, is
read back from its bytes. -/
def Obligations.ItemsAndImagesDecodeFromTheirBytes : Prop :=
  (∀ x : Item, x.wellFormed = true → Item.decode x.encode = some x) ∧
  (∀ i : Image,
    (∀ (id : Fin 384) (d : Definition), i.points[id] = some d → (Item.point id.val d).wellFormed = true) →
    (∀ p, i.profile = some p → p.rangesOk = true) → i.frame.rangesOk = true → Image.decode i.encode = i)

/-! ## The host port -/

/-- R130, R143, R147, R148, R189, R195: what becomes of a request that its owner is not handed: in LOADING, DISCOVERING and
WAKING it is answered STARTING; in sleep, and where a RESET discards its transaction (one whose beginning began the RESET,
or one that ends while the RESET is held), it is not answered; nothing else changes. A transaction begun while a RESET was
held arrives once the RESET has entered LOADING. -/
def Obligations.RequestsNotHandedChangeNothing : Prop :=
  ∀ (c : Instr) (code : Byte) (body : List Byte) (s : State), c.request? = some (code, body) →
    (s.arrives → (s.power.state = .loading ∨ s.power.state = .discovering ∨ s.power.state = .waking) →
      code ≠ codeStatus → code ≠ codeIdent → exec c s = .next (s.answered code body.length .starting [])) ∧
    (s.arrives → (s.power.state = .deepSleep ∨ s.power.state = .sleepFrame) → code ≠ codeWake →
      exec c s = .next (s.transacted body.length).drive) ∧
    (s.vsup = true → (s.port.writeTx = .discarded ∨ (s.port.writeTx = .begun ∧ s.power.reset = .held)) →
      exec c s = .next (s.transacted body.length).drive) ∧
    (s.vsup = true → s.port.writeTx = .none → s.power.reset = .held →
      exec c s = .next ((s.transacted body.length).setSlot .empty).drive) ∧
    (s.vsup = true → s.port.writeTx = .begun → (s.enterLoading .reset).arrives)

/-- R187: a request without operands, handed with a body that is not empty, is refused BAD_ARGUMENT and changes nothing
else. That this holds of a WAKE in sleep too, which then gathers no cause, is the model's choice (log 21). -/
def Obligations.BodyOfAnotherLengthIsRefused : Prop :=
  ∀ (c : Instr) (code : Byte) (body : List Byte) (s : State), c.request? = some (code, body) → s.hands code →
    code ∈ [codeChanges, codeQfrm, codeDiscov, codeQchain, codeClose, codeOpen, codeTrip, codeClrlock, codeQcont,
      codeSleep, codeWake, codeQpower, codeReset, codeUabandon, codeQstore, codeFinlock, codeStatus, codeIdent] →
    body ≠ [] → exec c s = .next (s.answered code body.length .badArgument [])

/-- R147, R148, R189, R195: what the beginning of a write transaction does, by the power state and by a RESET. -/
def Obligations.WriteTransactionBegins : Prop :=
  ∀ s : State, s.vsup = true →
    (s.power.reset = .none → s.power.state ≠ .deepSleep → s.power.state ≠ .sleepFrame →
      exec .writeTransactionBegin s =
        .next ({ s with port := { slot := .empty, writeTx := .begun, hsdo := [0xFF] } }).drive) ∧
    (s.power.reset = .none → (s.power.state = .deepSleep ∨ s.power.state = .sleepFrame) →
      exec .writeTransactionBegin s =
        .next ({ s with port := { s.port with writeTx := .begun, hsdo := [0xFF] } }).drive) ∧
    (s.power.reset = .held →
      exec .writeTransactionBegin s =
        .next ({ s with port := { slot := .empty, writeTx := .begun, hsdo := [0xFF] } }).drive) ∧
    (s.power.reset = .pending → s.storeBusy = true →
      exec .writeTransactionBegin s =
        .next ({ s with
          port := { slot := .empty, writeTx := .discarded, hsdo := [0xFF] }
          power := { s.power with reset := .held } }).drive) ∧
    (s.power.reset = .pending → s.storeBusy = false →
      ∃ t, exec .writeTransactionBegin s = .next t ∧ t.power.state = .loading ∧ t.port.writeTx = .discarded ∧
        t.power.record.causes = { WakeCauses.none with reset := true })

/-- R143, R148, R185, R189: what a read transaction of at least one byte shifts out, while no RESET answer is being
fetched. -/
def Obligations.ReadReturnsTheSlotOrAMarker : Prop :=
  ∀ (n : Nat) (s : State), s.vsup = true → 0 < n → s.power.reset ≠ .pending →
    let out := fun (bytes : List Byte) =>
      ({ s with port := { s.port with hsdo := ([0xFF] ++ bytes ++ List.replicate n 0xFF).take n } }).drive
    ((s.power.state = .deepSleep ∨ s.power.state = .sleepFrame) →
      exec (.readTransaction n) s = .next (out [0xDD, 0xDD])) ∧
    (s.power.state ≠ .deepSleep → s.power.state ≠ .sleepFrame → s.power.reset = .held →
      exec (.readTransaction n) s = .next (out [0xEE, 0xEE])) ∧
    (s.power.state ≠ .deepSleep → s.power.state ≠ .sleepFrame → s.power.reset = .none →
      (∀ f, s.port.slot = .holding f → exec (.readTransaction n) s = .next (out f)) ∧
      ((∀ f, s.port.slot ≠ .holding f) → exec (.readTransaction n) s = .next (out [0xEE, 0xEE])))

/-- R147, R148: a RESET that no refusal meets is pending until its answer has been read; the read that returns the whole
answer begins the reset: LOADING, or held while the Store is busy. -/
def Obligations.ResetBeginsWhenItsAnswerIsRead : Prop :=
  ∀ s : State,
    let ready := s.power.state = .active ∧ s.seq.state.atRest = true
    (s.hands codeReset →
      (¬ready → exec (.reset []) s = .next (s.answered codeReset 0 .state [])) ∧
      (ready → s.storeBusy = true → exec (.reset []) s = .next (s.answered codeReset 0 .busy [])) ∧
      (ready → s.storeBusy = false →
        exec (.reset []) s =
          .next (State.answered codeReset 0 .done [] { s with power := { s.power with reset := .pending } }))) ∧
    (∀ (n : Nat) (rest : List Byte), s.vsup = true → s.power.reset = .pending → s.power.state = .active →
      s.port.slot = .holding (codeReset :: rest) → rest.length + 2 ≤ n →
      ∃ t, exec (.readTransaction n) s = .next t ∧
        (s.storeBusy = false → t.power.state = .loading ∧ t.port.slot = .empty ∧ t.clock.number = 0 ∧
          t.power.record.causes = { WakeCauses.none with reset := true } ∧ t.store.bank0 = s.store.bank0 ∧
          t.store.bank1 = s.store.bank1) ∧
        (s.storeBusy = true → t.power = { s.power with reset := .held } ∧ t.port.slot = s.port.slot))

/-- R143, R186: a frame that fails its length or CRC check is answered FRAME_ERROR and a good frame whose code names no
request is answered UNKNOWN_REQUEST; in sleep both are dropped. -/
def Obligations.FrameChecksAnswer : Prop :=
  ∀ s : State, s.arrives →
    let asleep := s.power.state = .deepSleep ∨ s.power.state = .sleepFrame
    (∀ (frame : List Byte) (code : Byte), badTransaction frame = true → frame.head? = some code →
      let t : State := { s with port := { s.port with writeTx := .none, hsdo := List.replicate frame.length 0xFF } }
      (¬asleep →
        exec (.frameError frame) s = .next (t.setSlot (.holding (answerFrame code .frameError []))).drive) ∧
      (asleep → exec (.frameError frame) s = .next t.drive)) ∧
    (∀ (code : Byte) (body : List Byte), code ≠ 0 → code ∉ requestCodes →
      (¬asleep → exec (.unknownRequest code body) s = .next (s.answered code body.length .unknownRequest [])) ∧
      (asleep → exec (.unknownRequest code body) s = .next (s.transacted body.length).drive))

/-! ## Supply and load -/

/-- R128, R161, R190, R191: what a power loss leaves of the nonvolatile areas, whatever write it cuts; LOADING at POWER_ON
with the wake record {POWER_ON}. The model's choice (log 8): without supply no command but POWER_ON has an effect. A cut retraction leaves the bank as it was or with the
bytes that log 12 gives RETRACT, by a free choice (log 11). That a loss leaves every bank as it was while a bank write only
waits to start is the model's reading (log 44). -/
def Obligations.SupplyComesAndGoes : Prop :=
  ∀ s : State,
    (s.vsup = false → ∀ c, c ≠ .powerOn → exec c s = .next s) ∧
    (s.vsup = false → s.store.inFlight = .none →
      ∃ t, exec .powerOn s = .next t ∧ t.vsup = true ∧ t.power.state = .loading ∧
        t.power.record =
          { causes := { WakeCauses.none with powerOn := true }, firstPoint := none, sleepFrames := 0,
            entryFrame := none } ∧
        t.power.wakeSet = .none ∧ t.power.sleepFrame = 0 ∧ t.power.sleepTimer = none ∧ t.attention.mask = .all ∧
        t.attention.set.power = true ∧ t.pins.hen = true ∧ t.pins.attn = true ∧ t.port.slot = .empty ∧
        t.sense.time = 0 ∧ t.clock.phase = .stopped ∧ (∀ b, t.bank b = s.bank b) ∧
        (∀ i, t.counterSlot i = s.counterSlot i) ∧ (∀ c, t.keyCopy c = s.keyCopy c)) ∧
    (s.vsup = true →
      ∃ t, exec .powerLoss s = .next t ∧ t.vsup = false ∧ t.pins = Pins.off ∧
        (∀ b, t.bank b = s.bank b ∨
          (∃ w, s.store.inFlight = .bank w ∧ w.unit = .retract ∧ w.target = b ∧ t.bank b = w.work true (s.bank b))) ∧
        (∀ i, (∃ w, s.store.inFlight = .counter w ∧ w.slot = i ∧ t.counterSlot i = .invalid) ∨
          ((∀ w, s.store.inFlight = .counter w → w.slot ≠ i) ∧ t.counterSlot i = s.counterSlot i)) ∧
        (∀ c, (∃ w, s.store.inFlight = .key w ∧ w.copy = c ∧ (t.keyCopy c = .bad ∨ t.keyCopy c = .erased)) ∨
          ((∀ w, s.store.inFlight = .key w → w.copy ≠ c) ∧ t.keyCopy c = s.keyCopy c)))

/-- R24, R48, R101, R128, R157, R160: the end of the load builds the blocks from the active bank, and ends LOADING when the
five levels are already known. -/
def Obligations.LoadEndBuildsTheBlocks : Prop :=
  ∀ s : State, s.vsup = true → s.power.state = .loading → s.store.ready = false →
    ∃ t, exec .storeLoadEnd s = .next t ∧ t.store.ready = true ∧
      t.store.activeBank = selectBank s.store.bank0 s.store.bank1 ∧
      t.table.points = t.activeImage.points.map builtPoint ∧
      t.table.inhibitSet = idsWhere (fun id => (t.point id).inhibits) ∧ t.clock.active = t.activeImage.frame ∧
      t.seq.profile = t.activeImage.profile ∧
      (s.sense.allKnown = false → t.power.state = .loading) ∧
      (s.sense.allKnown = true → t.power.state = .discovering ∧
        t.chain.enumeration = some
          { purpose := .discovery .start t.clock.active.monitorCount, listening := false, counting := true, found := 0 })

/-! ## Requests on points -/

/-- R1, R18: ENLIST: its refusals in their order, and the ENLISTING record that it makes when none of them meets it. -/
def Obligations.EnlistTakesOrIsRefused : Prop :=
  ∀ (b : List Byte) (s : State), s.hands codeEnlist → enlistLengthOk b = true →
    let refused := fun (a : AnswerCode) => exec (.enlist b) s = .next (s.answered codeEnlist b.length a [])
    let id := u16 b 0
    let free := id ≤ 383 ∧ s.point id = .vacant ∧ s.enlistStaged id b = false
    (383 < id → refused .badArgument) ∧
    (id ≤ 383 → s.point id ≠ .vacant → refused .exists_) ∧
    (id ≤ 383 → s.point id = .vacant → s.enlistStaged id b = true → refused .staged) ∧
    (free → (∀ d, Definition.decode (b.drop 2) = some d → s.enlistable d = false) → refused .badArgument) ∧
    (∀ d k, free → Definition.decode (b.drop 2) = some d → s.enlistable d = true → d.slot = some k →
      s.smallestSlotCount ≤ k → refused .slotRange) ∧
    (∀ d, free → Definition.decode (b.drop 2) = some d → s.enlistable d = true →
      (∀ k, d.slot = some k → k < s.smallestSlotCount) →
      exec (.enlist b) s =
        .next (State.answered codeEnlist b.length .accepted []
          { s with table := { s.table with points := s.table.points.setIfInBounds id (.enlisting d) } }))

/-- R19: LOOKUP answers the record and changes nothing. -/
def Obligations.LookupReportsTheRecord : Prop :=
  ∀ (id : Nat) (s : State), s.hands codeLookup → id ≤ 383 →
    (s.point id = .vacant → exec (.lookup (le16 id)) s = .next (s.answered codeLookup 2 .noPoint [])) ∧
    (∀ d, s.point id = .enlisting d →
      exec (.lookup (le16 id)) s =
        .next (s.answered codeLookup 2 .done
          (le16 id ++ [1] ++ d.encode ++ ([0xFF] ++ List.replicate 24 0) ++ List.replicate 28 0))) ∧
    (∀ d l p, s.point id = .live d l p →
      exec (.lookup (le16 id)) s =
        .next (s.answered codeLookup 2 .done (le16 id ++ [2] ++ d.encode ++ l.encode ++ pendingBytes p)))

/-- R12, R20, R21: an AMEND that no refusal meets merges its fields into the pending part of its point; an AMENDG that no
refusal meets merges them into every target, touches no other point, and answers the count. -/
def Obligations.AmendmentsMergeIntoPendingParts : Prop :=
  ∀ s : State,
    (∀ (b : List Byte) (id : Nat) (d : Definition) (l : Live) (p : Option PendingPart) (c : Change),
      s.hands codeAmend → b.length = 29 → u16 b 0 = id → id ≤ 383 → s.point id = .live d l p →
      d.guard = .changeable → s.staged id = false → Change.decode (b.drop 2) = some c → s.changeOk c d p = true →
      (∀ k, c.slot = some k → k < s.smallestSlotCount) → p ≠ some .retire →
      exec (.amend b) s =
        .next (State.answered codeAmend 29 .accepted []
          (s.setPoint id (.live d l (some (.fields ((pendingChange p).merge c))))))) ∧
    (∀ (b : List Byte) (k : Kind) (first last : Nat) (c : Change), s.hands codeAmendg → b.length = 30 →
      groupBody? b = some (k, first, last, c) → (∀ id ∈ s.groupTargets k first last, s.staged id = false) →
      (∀ id ∈ s.groupTargets k first last, (s.point id).groupOk c = true) →
      let targets := s.groupTargets k first last
      ∃ t, exec (.amendg b) s = .next t ∧
        (∀ id d l p, id ∈ targets → s.point id = .live d l p →
          t.point id = .live d l (some (.fields ((pendingChange p).merge c)))) ∧
        (∀ id, id ∉ targets → t.point id = s.point id) ∧
        t.port.slot = .holding (answerFrame codeAmendg (if targets = [] then .done else .accepted)
          (le16 targets.length)) ∧
        t.table.inhibitSet = s.table.inhibitSet ∧ t.table.changedSet = s.table.changedSet ∧
        t.table.notices = s.table.notices ∧ t.clock = s.clock ∧ t.chain = s.chain ∧ t.sense = s.sense ∧
        t.seq = s.seq ∧ t.power = s.power ∧ t.store = s.store ∧ t.engine = s.engine ∧ t.attention = s.attention)

/-- R22: RETIRE on a LIVE point: its refusals in their order, and the mark it places when none of them meets it; on a
point that carries the mark, nothing changes. -/
def Obligations.RetireMarksThePoint : Prop :=
  ∀ (id : Nat) (d : Definition) (l : Live) (p : Option PendingPart) (s : State), s.hands codeRetire → id ≤ 383 →
    s.point id = .live d l p →
    let refused := fun (a : AnswerCode) => exec (.retire (le16 id)) s = .next (s.answered codeRetire 2 a [])
    let unmarked := p ≠ some .retire
    let free := unmarked ∧ d.guard = .changeable ∧ s.staged id = false
    (p = some .retire → refused .accepted) ∧
    (unmarked → d.guard = .guarded → refused .guarded) ∧
    (unmarked → d.guard = .changeable → s.staged id = true → refused .staged) ∧
    (free → s.inUse id = true → refused .inUse) ∧
    (free → s.inUse id = false → l.condition = .tripped → refused .latched) ∧
    (free → s.inUse id = false → l.condition ≠ .tripped →
      exec (.retire (le16 id)) s =
        .next (State.answered codeRetire 2 .accepted [] (s.setPoint id (.live d l (some .retire)))))

/-- R37, R38: an accepted RELEASE: the condition entered, everything of the live part that it writes or keeps, and its
consequences in the two sets; it sends no notice. -/
def Obligations.ReleaseLeavesTripped : Prop :=
  ∀ (id : Nat) (d : Definition) (l : Live) (p : Option PendingPart) (s : State), s.hands codeRelease → id ≤ 383 →
    s.point id = .live d l p → l.condition = .tripped → clearTest d l = true →
    let entered : Condition := if l.sample.any (fun x => d.limits.outsideWarn x.value) then .warn else .normal
    ∃ t, exec (.release (le16 id)) s = .next t ∧
      t.point id = .live d { l with excursion := 0, tripCause := none, condition := entered } p ∧
      (∀ x, x ≠ id → t.point x = s.point x) ∧
      (∀ x, x ∈ t.table.changedSet ↔ x ∈ s.table.changedSet ∨ (x = id ∧ d.actions.report = true)) ∧
      (id ∈ t.table.inhibitSet ↔ d.actions.inhibit = true ∧ entered = .warn) ∧
      (∀ x, x ≠ id → (x ∈ t.table.inhibitSet ↔ x ∈ s.table.inhibitSet)) ∧
      (s.inhibitSetExact → t.table.notices = s.table.notices) ∧
      t.attention = { s.attention with set :=
        { s.attention.set with points := s.attention.set.points || d.actions.report } } ∧
      t.port.slot = .holding (answerFrame codeRelease .done (le8 entered.code)) ∧ t.seq = s.seq ∧ t.clock = s.clock ∧
      t.chain = s.chain ∧ t.sense = s.sense ∧ t.power = s.power ∧ t.engine = s.engine ∧ t.store = s.store

/-- R45: CHANGES reports the 16 lowest ids with their conditions and takes them out of the set. -/
def Obligations.ChangesReportsAndRemoves : Prop :=
  ∀ s : State, s.hands codeChanges →
    exec (.changes []) s =
      .next (State.answered codeChanges 0 .done
        (le8 (s.table.changedSet.take 16).length ++ le16 (s.table.changedSet.drop 16).length ++
          (s.table.changedSet.take 16).flatMap (fun id => le16 id ++ le8 (s.point id).conditionCode))
        { s with
          table := { s.table with changedSet := s.table.changedSet.drop 16 }
          attention := { s.attention with set :=
            { s.attention.set with points := !(s.table.changedSet.drop 16).isEmpty } } })

/-- R46: QINHIB refuses a start id above 383, and otherwise reports one page and changes nothing. -/
def Obligations.QinhibReportsOnePage : Prop :=
  ∀ (start : Nat) (s : State), s.hands codeQinhib → start < 65536 →
    let page := (s.table.inhibitSet.filter (fun id => decide (start ≤ id))).take 64
    (383 < start → exec (.qinhib (le16 start)) s = .next (s.answered codeQinhib 2 .badArgument [])) ∧
    (start ≤ 383 →
      exec (.qinhib (le16 start)) s =
        .next (s.answered codeQinhib 2 .done
          (le16 s.table.inhibitSet.length ++ le8 page.length ++ page.flatMap le16)))

/-! ## Judgement -/

/-- R26 to R29: the live part after a valid sample, field by field. -/
def Obligations.ValidSampleIsJudged : Prop :=
  ∀ (d : Definition) (l : Live) (v : Int) (n : Word32),
    let high := ∃ h, d.limits.highTrip = some h ∧ h < v
    let low := ∃ h, d.limits.lowTrip = some h ∧ v < h
    let highWarn := if d.limits.highWarn.isSome then d.limits.highWarn else d.limits.highTrip
    let lowWarn := if d.limits.lowWarn.isSome then d.limits.lowWarn else d.limits.lowTrip
    let outside := (∃ h, highWarn = some h ∧ h < v) ∨ (∃ h, lowWarn = some h ∧ v < h)
    let inside := (∀ h, highWarn = some h → v ≤ h - d.hysteresis) ∧ (∀ h, lowWarn = some h → h + d.hysteresis ≤ v)
    let m := l.judged d v n
    let trips := (high ∨ low) ∧ m.excursion = d.persistence
    m.sample = some { value := v, frame := n } ∧ m.missed = 0 ∧ m.spot = l.spot ∧ m.amended = l.amended ∧
    (high ∨ low → m.excursion = min (l.excursion + 1) d.persistence) ∧ (¬(high ∨ low) → m.excursion = 0) ∧
    (l.condition = .tripped → m.condition = .tripped ∧ m.tripCause = l.tripCause) ∧
    (l.condition ≠ .tripped → trips →
      m.condition = .tripped ∧ (high → m.tripCause = some .limitHigh) ∧ (¬high → m.tripCause = some .limitLow)) ∧
    (l.condition ≠ .tripped → ¬trips →
      m.tripCause = none ∧ (outside → m.condition = .warn) ∧
      (¬outside → l.condition = .warn → ¬inside → m.condition = .warn) ∧
      (¬outside → (l.condition ≠ .warn ∨ inside) → m.condition = .normal))

/-- R30, R31: the live part after a missed sample. -/
def Obligations.ThirdMissDecidesStaleness : Prop :=
  ∀ (d : Definition) (l : Live),
    let m := l.afterMiss d
    m.missed = min (l.missed + 1) 3 ∧ m.sample = l.sample ∧ m.spot = l.spot ∧
    (l.missed ≠ 2 ∨ l.condition = .tripped →
      m.condition = l.condition ∧ m.excursion = l.excursion ∧ m.tripCause = l.tripCause) ∧
    (l.missed = 2 → l.condition ≠ .tripped → d.staleTrips = true →
      m.condition = .tripped ∧ m.tripCause = some .stale ∧ m.excursion = l.excursion) ∧
    (l.missed = 2 → l.condition ≠ .tripped → d.staleTrips = false → m.condition = .stale ∧ m.excursion = 0)

/-! ## The Frame Clock and the ring -/

/-- R49: a SETFRM that no refusal meets replaces the pending record whole; the refusals come in their order. -/
def Obligations.SetfrmReplacesThePendingRecord : Prop :=
  ∀ (b : List Byte) (s : State), s.hands codeSetfrm → b.length = 4 →
    let p : PendingParams := { frameLength := u8 b 0, slotCount := u8 b 1, sleepPeriod := u16 b 2 }
    let refused := fun (a : AnswerCode) => exec (.setfrm b) s = .next (s.answered codeSetfrm 4 a [])
    (p.rangesOk = false → refused .badArgument) ∧
    (p.rangesOk = true → s.stagedFrame? ≠ none → refused .staged) ∧
    (p.rangesOk = true → s.stagedFrame? = none → s.slotsBelow p.slotCount = false → refused .slotRange) ∧
    (p.rangesOk = true → s.stagedFrame? = none → s.slotsBelow p.slotCount = true →
      exec (.setfrm b) s =
        .next (State.answered codeSetfrm 4 .accepted [] { s with clock := { s.clock with waiting := some p } }))

/-- R50, R87, R126, R146, R183: each query answers its body and clears its own causes, and nothing else changes. -/
def Obligations.QueriesClearTheirCauses : Prop :=
  ∀ s : State,
    (s.hands codeQfrm → exec (.qfrm []) s =
      .next (State.answered codeQfrm 0 .done (qfrmBody s)
        { s with attention := { s.attention with set := { s.attention.set with frame := false } } })) ∧
    (s.hands codeQchain → exec (.qchain []) s =
      .next (State.answered codeQchain 0 .done (qchainBody s)
        { s with attention := { s.attention with set := { s.attention.set with chain := false } } })) ∧
    (s.hands codeQcont → exec (.qcont []) s =
      .next (State.answered codeQcont 0 .done (qcontBody s)
        { s with attention := { s.attention with set := { s.attention.set with contactor := false } } })) ∧
    (s.hands codeQpower → exec (.qpower []) s =
      .next (State.answered codeQpower 0 .done (qpowerBody s)
        { s with attention := { s.attention with set := { s.attention.set with power := false } } })) ∧
    (s.hands codeQstore → exec (.qstore []) s =
      .next (State.answered codeQstore 0 .done (qstoreBody s)
        { s with attention := { s.attention with set :=
          { s.attention.set with update := false, store := false, tamper := false } } }))

/-- R62 to R65, R83: SPOT, MSTAT and DISCOV: an item joins the tail queue at the back; when the tail is free the capture of
an internal point, or the status read, begins at once. SPOT's refusals come in their order. -/
def Obligations.TailRequestsJoinTheQueue : Prop :=
  ∀ s : State,
    (∀ id, s.hands codeSpot → id ≤ 383 →
      let spot := fun (a : AnswerCode) (u : State) => exec (.spot (le16 id)) s = .next (u.answered codeSpot 2 a [])
      let listens := s.power.state ≠ .settling ∧ (s.point id).isLive = true
      (s.power.state = .settling → spot .state s) ∧
      (s.power.state ≠ .settling → (s.point id).isLive = false → spot .noPoint s) ∧
      (listens → TailItem.spot id ∈ s.clock.tail → spot .accepted s) ∧
      (listens → TailItem.spot id ∉ s.clock.tail → 4 ≤ s.clock.tail.length → spot .queueFull s) ∧
      (listens → TailItem.spot id ∉ s.clock.tail → s.clock.tail.length < 4 → s.tailFree = false →
        spot .accepted { s with clock := { s.clock with tail := s.clock.tail ++ [.spot id] } }) ∧
      (∀ d l p c, s.power.state ≠ .settling → s.point id = .live d l p → d.kind.converter? = some c →
        s.clock.tail = [] → s.tailFree = true → s.capture? c = none →
        spot .accepted
          (State.setCapture c (some { ids := [], spot := some id })
            { s with clock := { s.clock with tail := [.spot id], tailInFlight := true } }))) ∧
    (∀ (a : Nat) (clear : Bool), s.hands codeMstat → s.power.state ≠ .settling → a ≤ 15 → s.readable a = true →
      let mstat := fun (u : State) =>
        exec (.mstat [BitVec.ofNat 8 a, boolByte clear]) s = .next (u.answered codeMstat 2 .accepted [])
      (s.clock.tail.length < 4 → s.tailFree = false →
        mstat { s with clock := { s.clock with tail := s.clock.tail ++ [.mstat a clear] } }) ∧
      (s.clock.tail = [] → s.tailFree = true →
        mstat (State.sendRead { address := a, block := .status, clear := clear, second := false, owner := .mstat }
          { s with clock := { s.clock with tail := [.mstat a clear], tailInFlight := true } }))) ∧
    (s.hands codeDiscov → s.power.state ≠ .settling →
      exec (.discov []) s =
        .next (State.answered codeDiscov 0 .accepted []
          { s with clock := { s.clock with discoveryPending := true } }))

/-- R14 to R16, R48, R52, R53, R56: what a frame start out of the tail applies and opens, with no commit in APPLYING. -/
def Obligations.FrameStartAppliesAndOpens : Prop :=
  ∀ s : State, s.vsup = true → s.power.state = .active → s.clock.phase = .tail → s.engine.state ≠ .applying →
    ∃ t, exec .frameStart s = .next t ∧
      t.clock.number = (if s.clock.opened then s.clock.number + 1 else 0) ∧ t.clock.opened = true ∧
      t.clock.waiting = none ∧
      (∀ p, s.clock.waiting = some p → t.clock.active =
        { frameLength := p.frameLength, slotCount := p.slotCount, sleepPeriod := p.sleepPeriod,
          monitorCount := s.clock.active.monitorCount }) ∧
      (s.clock.waiting = none → t.clock.active = s.clock.active) ∧
      t.clock.timer = some t.clock.active.frameLength ∧
      (∀ id d, s.point id = .enlisting d → (t.point id).liveDefinition? = some d) ∧
      (∀ id d l c, s.point id = .live d l (some (.fields c)) → (t.point id).liveDefinition? = some (c.applyTo d)) ∧
      (∀ id d l, s.point id = .live d l (some .retire) → t.point id = .vacant) ∧
      (∀ id d l, s.point id = .live d l none → (t.point id).liveDefinition? = some d)

/-- R174, R178: the frame start that finds a commit in APPLYING ends it APPLIED, with UPDATE raised. -/
def Obligations.FrameStartEndsTheCommit : Prop :=
  ∀ s : State, s.vsup = true → s.power.state = .active → s.clock.phase = .tail → s.engine.state = .applying →
    ∃ t, exec .frameStart s = .next t ∧ t.engine.state = .idle ∧ t.engine.stage = [] ∧ t.engine.version = none ∧
      t.engine.outcome = some
        { outcome := .applied, version := s.engine.version.getD 0, itemIndex := none, reason := none } ∧
      t.attention.set.update = true ∧ t.store.activeBank = s.store.activeBank ∧
      (∀ id d, s.engine.stage = [.point id d] → id ≤ 383 → (t.point id).liveDefinition? = some d) ∧
      (∀ id, s.engine.stage = [.remove id] → t.point id = .vacant) ∧
      (∀ p, s.engine.stage = [.profile p] → t.seq.profile = some p) ∧
      (∀ f, s.engine.stage = [.frame f] → t.clock.active = f)

/-- R57 to R59, R70: a later slot start with nothing left of the round before, whose points can all be read, broadcasts
CONVERT with the next tag and reads the head entry; one that finds entries in the queue is an overrun: counted, FRAME
raised, the round given up. -/
def Obligations.SlotStartReadsOrOverruns : Prop :=
  ∀ (k : Nat) (s : State), s.vsup = true →
    (∀ e rest, s.clock.phase = .slot k false → k + 1 < s.clock.active.slotCount → s.chain.round = none →
      s.clock.given = false →
      (∀ id ∈ s.slotPoints (k + 1), ∀ x, s.readEntry? id = some x → s.readable x.1 = true) →
      s.readQueue (s.slotPoints (k + 1)) s.readable = e :: rest →
      ∃ t r, exec .slotStart s = .next t ∧ t.clock.phase = .slot (k + 1) true ∧ t.chain.tag = s.chain.tag + 1 ∧
        t.chain.round = some r ∧ r.queue = e :: rest ∧
        t.chain.read = some { address := e.1, block := e.2, clear := false, second := false, owner := .round } ∧
        t.chain.sent = s.chain.sent ++ [convertMessage (s.chain.tag + 1), readMessage e.1 e.2 false] ∧
        t.table = s.table) ∧
    (∀ r, s.clock.phase = .slot k true → s.chain.round = some r → s.slotPoints (k + 1) = [] →
      k + 2 < s.clock.active.slotCount → r.points.Nodup →
      ∃ t, exec .slotStart s = .next t ∧ t.clock.phase = .slot (k + 1) false ∧
        t.clock.overruns = (if s.clock.overruns = 65535 then 65535 else s.clock.overruns + 1) ∧
        t.attention.set.frame = true ∧ t.chain.round = none ∧ t.chain.read = none ∧
        (∀ id d l p, id ∈ s.dependents r.queue r.points → s.point id = .live d l p →
          t.point id = .live d (l.afterMiss d) p) ∧
        (∀ id, id ∉ s.dependents r.queue r.points → t.point id = s.point id))

/-- R26, R30, R35, R36, R40, R41, R43, R47, R89, R90, R102: a delivery judges the converted value, or a miss, at each point
the capture serves, and at no other; for a capture of one point, everything that its judgement leads to; for a capture of
a SPOT item alone, with no item behind it, the spot record and the end of the item. -/
def Obligations.DeliveryReachesTheCapturesPoints : Prop :=
  ∀ (c : Converter) (reading : Int) (s : State), s.vsup = true →
    (∀ ids : List Nat, s.capture? c = some { ids := ids, spot := none } → ids.Nodup →
      ∃ t, exec (.captureDelivery c reading) s = .next t ∧ t.capture? c = none ∧
        (∀ id d l p, id ∈ ids → s.point id = .live d l p →
          t.point id = .live d
            (match convertedValue c reading with
              | some v => l.judged d v s.clock.number
              | none => l.afterMiss d) p) ∧
        (∀ id, id ∉ ids → t.point id = s.point id) ∧ t.clock = s.clock ∧ t.chain = s.chain ∧ t.seq = s.seq ∧
        t.store = s.store ∧ t.engine = s.engine) ∧
    (∀ (id : Nat) (d : Definition) (l : Live) (p : Option PendingPart),
      s.capture? c = some { ids := [id], spot := none } → s.point id = .live d l p →
      let m : Live := match convertedValue c reading with
        | some v => l.judged d v s.clock.number
        | none => l.afterMiss d
      let changed : Bool := m.condition != l.condition
      let belongs : Bool :=
        (d.actions.inhibit && m.condition != .normal) || (d.actions.opens && m.condition == .tripped)
      let inhibitNotice : List Notice :=
        if changed && belongs && !s.table.inhibitSet.contains id then [.inhibit id] else []
      let tripNotice : List Notice :=
        if changed && d.actions.opens && m.condition == .tripped then [.trip id] else []
      let referenceSample : List Notice := match convertedValue c reading, s.seq.profile with
        | some v, some q => if q.busPoint = id ∨ q.currentPoint = id then [.reference id v] else []
        | _, _ => []
      let wakes : Bool :=
        changed && s.power.state == .sleepFrame && d.sleepDivider.isSome && d.actions.wakes &&
          (m.condition == .warn || m.condition == .tripped || m.condition == .stale)
      ∃ t, exec (.captureDelivery c reading) s = .next t ∧ t.point id = .live d m p ∧
        t.table.notices = s.table.notices ++ inhibitNotice ++ tripNotice ++ referenceSample ∧
        (changed = true → (id ∈ t.table.inhibitSet ↔ belongs = true)) ∧
        (changed = false → t.table.inhibitSet = s.table.inhibitSet) ∧
        (∀ x, x ≠ id → (x ∈ t.table.inhibitSet ↔ x ∈ s.table.inhibitSet)) ∧
        (∀ x, x ∈ t.table.changedSet ↔
          x ∈ s.table.changedSet ∨ (x = id ∧ changed = true ∧ d.actions.report = true)) ∧
        t.attention = { s.attention with set :=
          { s.attention.set with points := s.attention.set.points || (changed && d.actions.report) } } ∧
        (wakes = true →
          t.power = { s.power with
            wakeSet := { s.power.wakeSet with point := true }
            firstPoint := if s.power.firstPoint.isSome then s.power.firstPoint else some id }) ∧
        (wakes = false → t.power = s.power)) ∧
    (∀ (id : Nat) (d : Definition) (l : Live) (p : Option PendingPart),
      s.capture? c = some { ids := [], spot := some id } → s.point id = .live d l p → s.clock.tail = [.spot id] →
      let spot : Spot := match convertedValue c reading with
        | some v => { value := some v, frame := s.clock.number, outcome := .ok }
        | none => { value := none, frame := s.clock.number, outcome := .failed }
      ∃ t, exec (.captureDelivery c reading) s = .next t ∧ t.capture? c = none ∧
        t.point id = .live d { l with spot := some spot } p ∧ (∀ x, x ≠ id → t.point x = s.point x) ∧
        t.clock = { s.clock with tail := [], tailInFlight := false } ∧
        (∀ x, x ∈ t.table.changedSet ↔ x ∈ s.table.changedSet ∨ x = id) ∧
        t.table.inhibitSet = s.table.inhibitSet ∧ t.table.notices = s.table.notices ∧
        t.attention = { s.attention with set := { s.attention.set with points := true } } ∧
        t.chain = s.chain ∧ t.seq = s.seq ∧ t.power = s.power ∧ t.store = s.store ∧ t.engine = s.engine)

/-- R88: a reading at an end of the converter's range carries no value; every other reading of the range is clamped into
the kind's range. -/
def Obligations.ReadingsAreClampedOrSaturated : Prop :=
  (∀ r : Int, -20480 ≤ r → r ≤ 20479 →
    (r = -20480 ∨ r = 20479 → convertedValue .shuntCurrent r = none) ∧
    (r ≠ -20480 → r < -20000 → convertedValue .shuntCurrent r = some (-20000)) ∧
    (-20000 ≤ r → r ≤ 20000 → convertedValue .shuntCurrent r = some r) ∧
    (20000 < r → r ≠ 20479 → convertedValue .shuntCurrent r = some 20000)) ∧
  (∀ (c : Converter) (r : Int), c ≠ .shuntCurrent → -512 ≤ r → r ≤ 12287 →
    (r = -512 ∨ r = 12287 → convertedValue c r = none) ∧
    (r ≠ -512 → r < 0 → convertedValue c r = some 0) ∧
    (0 ≤ r → r ≤ 12000 → convertedValue c r = some r) ∧
    (12000 < r → r ≠ 12287 → convertedValue c r = some 12000))

/-- R71 to R75: a first attempt that fails its header check is noted and sent again; so is one that no reply answers. -/
def Obligations.FailedAttemptIsRetriedOnce : Prop :=
  ∀ (r : Read) (s : State), s.vsup = true → s.chain.read = some r → r.second = false →
    let again := fun (k : FailureKind) =>
      ({ s with chain := { s.chain with
          roster := s.chain.roster.setIfInBounds r.address { s.entry r.address with lastFailure := some k }
          read := some { r with second := true }
          sent := s.chain.sent ++ [readMessage r.address r.block r.clear] } }).drive
    exec .readWaitExpiry s = .next (again .noReply) ∧
    (∀ m, checkReply r s.chain.tag m = .badHeader → exec (.blockReply m) s = .next (again .headerBad)) ∧
    (∀ m, checkReply r s.chain.tag m = .mismatch → exec (.blockReply m) s = .next (again .mismatch))

/-- R58, R73: an accepted reply to the head entry of a slot round gives its points their channels, and the next entry is
read. -/
def Obligations.AcceptedReplyGivesTheChannels : Prop :=
  ∀ (r : Read) (q : Round) (next : Nat × Block) (rest : List (Nat × Block)) (m : List Byte) (words : List Nat)
    (s : State), s.vsup = true → s.chain.read = some r → r.owner = .round → s.chain.round = some q →
    q.queue = (r.address, r.block) :: next :: rest → q.points.Nodup →
    checkReply r s.chain.tag m = .good false words →
    ∃ t, exec (.blockReply m) s = .next t ∧
      (∀ id d l p, id ∈ s.dependents [(r.address, r.block)] q.points → s.point id = .live d l p →
        t.point id = .live d
          (match d.channelIn r.block words with
            | some v => l.judged d v s.clock.number
            | none => l.afterMiss d) p) ∧
      (∀ id, id ∉ s.dependents [(r.address, r.block)] q.points → t.point id = s.point id) ∧
      t.chain.round = some { q with queue := next :: rest, accepted := r.address :: q.accepted } ∧
      t.chain.read = some { address := next.1, block := next.2, clear := false, second := false, owner := .round } ∧
      t.chain.roster = s.chain.roster ∧ t.clock = s.clock ∧ t.seq = s.seq ∧ t.store = s.store

/-- R80, R81: ENUM follows WAKE_ALL, a reply counts when it is the next one expected, and the end of a discovery in
ACTIVE, with no tail item waiting, rebuilds the roster and the summary. -/
def Obligations.EnumerationFindsTheMonitors : Prop :=
  ∀ (e : Enumeration) (s : State), s.vsup = true → s.chain.enumeration = some e →
    (e.listening = false →
      exec .enumDelayExpiry s =
        .next ({ s with chain := { s.chain with
          enumeration := some { e with listening := true }, sent := s.chain.sent ++ [withCrc8 [0x01, 0]] } }).drive) ∧
    (∀ m, e.listening = true → s.chain.read = none →
      exec (.enumReply m) s =
        .next ({ s with chain := { s.chain with
          enumeration := some
            (if e.counting = true ∧ countsAs e.found m = true then { e with found := e.found + 1 }
             else { e with counting := false }) } }).drive) ∧
    (∀ cause c, s.power.state = .active → e.listening = true → e.purpose = .discovery cause c → s.clock.tail = [] →
      ∃ t, exec .enumSilenceExpiry s = .next t ∧
        (∀ a, a < 16 → t.entry a =
          { s.entry a with
            state := if c ≤ a then .absent else if a < e.found then .present else .missing
            consecutiveFailed := 0, statusWords := none }) ∧
        t.chain.foundCount = e.found ∧ t.chain.expected = c ∧ t.chain.extra = decide (c < e.found) ∧
        t.chain.cause = cause ∧ t.chain.tag = s.chain.tag ∧ t.chain.enumeration = none ∧
        t.clock = { s.clock with discoveryRunning := false } ∧
        (t.attention.set.chain = true ↔ s.attention.set.chain = true ∨ e.found ≠ c) ∧ t.table = s.table ∧
        t.seq = s.seq)

/-! ## Lines -/

/-- R95, R96: the debounce stage of a line at one sample, with its level known or UNKNOWN. -/
def Obligations.DebounceTakesFourSamples : Prop :=
  ∀ (x : DebounceStage) (b : Bool) (now : Word32),
    (x.level = some b → x.step b now = { x with run := 0, runLevel := none, runStamp := none }) ∧
    (x.level ≠ some b → x.runLevel ≠ some b →
      x.step b now = { x with run := 1, runLevel := some b, runStamp := some now }) ∧
    (∀ t, x.level ≠ some b → x.run < 3 → x.runLevel = some b → x.runStamp = some t →
      x.step b now = { x with run := x.run + 1 }) ∧
    (∀ t, x.level ≠ some b → x.run = 3 → x.runLevel = some b → x.runStamp = some t →
      x.step b now = { level := some b, run := 0, runLevel := none, runStamp := none, setStamp := some t })

/-- R94 to R100: a line sample moves every stage and, outside LOADING, sends its events. The clauses after the first give
the state that each single change of a line leads to, by sequencer state and power state; changes of one sample act one
after another in the order AUX_NEG, AUX_POS, CRASH, WAKE, LID (R96). Four clauses rest on the model's reading: that a
LINE_SAMPLE moves the sense time to its next multiple of ten, with 0 the first one past the wrap (log 2, log 17); that a wake
cause in DEEP_SLEEP sets the discovery-running flag for the discovery of WAKING (log 29); and that a main lost before the
coil instant which opens once more in OPENING writes its last_open_time (log 43). -/
def Obligations.LineSampleMovesTheStages : Prop :=
  ∀ (l : LineLevels) (s : State), s.vsup = true →
    let u : State := { s with sense := s.sense.sampled l }
    let changes := lineChanges s.sense u.sense
    -- outside LOADING, a sample whose changes are `x` leads to `t`
    let leads := fun (x : LineChanges) (t : State) =>
      s.power.state ≠ .loading → changes = x → exec (.lineSample l) s = .next t.drive
    let since := u.sense.time - s.seq.coilInstant
    let stuck := fun (cause : Cause) (lockout : LockoutCause) =>
      ({ u with seq :=
        { s.seq with
          state := .lockout, timer := none, context := none, lastCause := some cause
          lockoutCause := some lockout } } : State).recorded
    let closing := s.seq.state = .negClosing ∨ s.seq.state = .precharging ∨ s.seq.state = .posClosing
    let high := fun (stamp : Word32) => some (true, stamp)
    (∃ t, exec (.lineSample l) s = .next t ∧ t.sense = s.sense.sampled l ∧
      (∀ stamp, s.power.state ≠ .loading →
        stageChange s.sense.lid (s.sense.lid.step l.lid (nextSampleTime s.sense.time)) = some (true, stamp) →
        t.engine.tamperLatch = true ∧ t.attention.set.tamper = true ∧
          t.engine.tamperCount =
            if s.engine.tamperCount = BitVec.allOnes 32 then s.engine.tamperCount else s.engine.tamperCount + 1)) ∧
    -- LOADING: no event, and its end at the fifth known level (R96, R128)
    (s.power.state = .loading → (s.store.ready = false ∨ u.sense.allKnown = false) →
      exec (.lineSample l) s = .next u.drive) ∧
    (s.power.state = .loading → s.store.ready = true → u.sense.allKnown = true →
      ∃ t, exec (.lineSample l) s = .next t ∧ t.power.state = .discovering ∧
        t.chain.enumeration = some
          { purpose := .discovery .start s.clock.active.monitorCount, listening := false, counting := true,
            found := 0 }) ∧
    -- no change, and changes to a rest level that raise no event (R98, R99, R100)
    (leads .none u) ∧ (∀ stamp, leads { LineChanges.none with crash := some (false, stamp) } u) ∧
    (∀ stamp, leads { LineChanges.none with wake := some (false, stamp) } u) ∧
    (∀ stamp, leads { LineChanges.none with lid := some (false, stamp) } u) ∧
    -- auxiliary edges at rest (R118, R120, R121)
    (∀ stamp, s.seq.state = .opened → leads (.edge .neg true stamp) (stuck .auxStuckNeg .auxStuckNeg)) ∧
    (∀ stamp, s.seq.state = .opened → leads (.edge .pos true stamp) (stuck .auxStuckPos .auxStuckPos)) ∧
    (∀ m stamp, s.seq.state = .opened → leads (.edge m false stamp) u) ∧
    (∀ m b stamp, s.seq.state = .lockout → leads (.edge m b stamp) u) ∧
    -- the confirmation of the negative main (R107, R108)
    (∀ stamp p, s.seq.state = .negClosing → s.seq.profile = some p →
      let confirmed : State :=
        { u with seq :=
          { s.seq with
            lastCloseNeg := some (stamp - s.seq.coilInstant)
            closeNeg := if s.seq.closeNeg = BitVec.allOnes 32 then s.seq.closeNeg else s.seq.closeNeg + 1 } }
      (since.toNat < 30 → leads (.edge .neg true stamp) (u.enterOpening .auxStuckNeg)) ∧
      (30 ≤ since.toNat → s.table.inhibitSet = [] →
        leads (.edge .neg true stamp)
          { confirmed with seq :=
            { confirmed.seq with
              state := .precharging, coilInstant := u.sense.time
              timer := some { name := .precharge, start := u.sense.time, counts := 10 * p.prechargeTimeout } } }) ∧
      (∀ i more, 30 ≤ since.toNat → s.table.inhibitSet = i :: more →
        leads (.edge .neg true stamp) (confirmed.enterOpening (.inhibit i)))) ∧
    -- the confirmation of the positive main (R107, R110, R124, R125)
    (∀ stamp, s.seq.state = .posClosing →
      let confirmed : State :=
        { u with seq :=
          { s.seq with
            lastClosePos := some (stamp - s.seq.coilInstant)
            closePos := if s.seq.closePos = BitVec.allOnes 32 then s.seq.closePos else s.seq.closePos + 1 } }
      (since.toNat < 30 → leads (.edge .pos true stamp) (u.enterOpening .auxStuckPos)) ∧
      (30 ≤ since.toNat → s.table.inhibitSet = [] →
        leads (.edge .pos true stamp)
          ({ confirmed with seq :=
            { confirmed.seq with state := .closed, coilInstant := u.sense.time, timer := none } } : State).recorded) ∧
      (∀ i more, 30 ≤ since.toNat → s.table.inhibitSet = i :: more →
        leads (.edge .pos true stamp) (confirmed.enterOpening (.inhibit i)))) ∧
    -- the other edges of a closure and of a closed pack (R108, R109, R110, R115)
    (∀ stamp, s.seq.state = .negClosing ∨ s.seq.state = .precharging →
      leads (.edge .pos true stamp) (u.enterOpening .auxStuckPos)) ∧
    (∀ stamp, s.seq.state = .precharging ∨ s.seq.state = .posClosing ∨ s.seq.state = .closed ∨
        s.seq.state = .deferring → leads (.edge .neg false stamp) (u.enterOpening .auxLostNeg)) ∧
    (∀ stamp, s.seq.state = .closed ∨ s.seq.state = .deferring →
      leads (.edge .pos false stamp) (u.enterOpening .auxLostPos)) ∧
    (∀ stamp, s.seq.state = .negClosing → leads (.edge .neg false stamp) u) ∧
    (∀ stamp, s.seq.state = .precharging ∨ s.seq.state = .posClosing → leads (.edge .neg true stamp) u) ∧
    (∀ stamp, closing → leads (.edge .pos false stamp) u) ∧
    (∀ m stamp, s.seq.state = .closed ∨ s.seq.state = .deferring → leads (.edge m true stamp) u) ∧
    -- edges in OPENING, and the main that opened before the coil instant (R118, R123)
    (∀ m stamp, s.seq.state = .opening → leads (.edge m true stamp) u) ∧
    (∀ stamp x, s.seq.state = .opening → s.seq.context = some x →
      let before := (u.sense.time - x.deEnergizedAt).toNat < (u.sense.time - stamp).toNat
      (x.negWasOn = true → ¬before →
        leads (.edge .neg false stamp)
          { u with seq := { s.seq with lastOpenNeg := some (stamp - x.deEnergizedAt) } }) ∧
      (x.negWasOn = false ∨ before → leads (.edge .neg false stamp) u) ∧
      (x.posWasOn = true → ¬before →
        leads (.edge .pos false stamp)
          { u with seq := { s.seq with lastOpenPos := some (stamp - x.deEnergizedAt) } }) ∧
      (x.posWasOn = false ∨ before → leads (.edge .pos false stamp) u)) ∧
    -- a crash event at the sequencer, then at the Power Manager (R98, R111, R115, R118, R120, R121)
    (∀ stamp,
      let crash := { LineChanges.none with crash := high stamp }
      (s.seq.state = .opened → leads crash ((stuck .crash .crash).gather .crash)) ∧
      (closing ∨ s.seq.state = .closed ∨ s.seq.state = .deferring →
        leads crash ((u.enterOpening .crash).gather .crash)) ∧
      (∀ x, s.seq.state = .opening → s.seq.context = some x →
        leads crash
          (State.gather .crash { u with seq := { s.seq with context := some { x with crashSeen := true } } })) ∧
      (s.seq.state = .lockout → leads crash (u.gather .crash))) ∧
    -- a wake event (R99) and a tamper event (R100, R180)
    (∀ stamp, leads { LineChanges.none with wake := high stamp } (u.gather .line)) ∧
    (∀ stamp,
      let latched : State :=
        { u with engine :=
          { s.engine with
            tamperLatch := true
            tamperCount :=
              if s.engine.tamperCount = BitVec.allOnes 32 then s.engine.tamperCount else s.engine.tamperCount + 1 } }
      let tampered : State :=
        { latched with
          store := s.store.requested false latched.snapshot
          attention := { s.attention with set := { s.attention.set with tamper := true } } }
      let record : OutcomeRecord :=
        { outcome := .tampered, version := s.engine.version.getD 0, itemIndex := none, reason := none }
      let open_ := s.engine.state = .staging ∨ s.engine.state = .verifying
      (¬open_ → leads { LineChanges.none with lid := high stamp } (tampered.gather .tamper)) ∧
      (open_ → leads { LineChanges.none with lid := high stamp }
        (State.gather .tamper
          { tampered with
            engine :=
              { latched.engine with
                state := .idle, stage := [], version := none, commitTag := none, outcome := some record }
            attention := { s.attention with set :=
              { s.attention.set with tamper := true, update := true } } }))) ∧
    -- what a wake cause does, by power state (R129, R134, R138, R142, R143, R144, R145)
    (∀ (x : WakeName) (v : State),
      (v.power.state = .loading ∨ v.power.state = .discovering ∨ v.power.state = .active → v.gather x = v) ∧
      (v.power.state = .settling ∨ v.power.state = .sleepFrame ∨ v.power.state = .waking →
        v.gather x = { v with power := { v.power with wakeSet := v.power.wakeSet.add x } }) ∧
      (v.power.state = .deepSleep →
        v.gather x =
          { v with
            power := { v.power with state := .waking, sleepTimer := none, wakeSet := v.power.wakeSet.add x }
            port := { v.port with slot :=
              if (v.power.wakeSet.add x).request = true then .holding (answerFrame codeWake .accepted []) else .empty }
            clock := { v.clock with discoveryRunning := true, discoveryPending := false }
            chain :=
              { v.chain with
                enumeration := some
                  { purpose := .discovery .wake v.clock.active.monitorCount, listening := false, counting := true,
                    found := 0 }
                sent := v.chain.sent ++ [withCrc8 [0x02]] } })) ∧
    -- several changes in one sample
    (s.power.state ≠ .loading → exec (.lineSample l) s = .next (u.lineEvents changes).drive) ∧
    (∀ (x : LineChanges) (v : State),
      v.lineEvents x =
        ((((v.lineEvents { LineChanges.none with auxNeg := x.auxNeg }).lineEvents
          { LineChanges.none with auxPos := x.auxPos }).lineEvents
          { LineChanges.none with crash := x.crash }).lineEvents
          { LineChanges.none with wake := x.wake }).lineEvents { LineChanges.none with lid := x.lid })

/-! ## The Contactor Sequencer -/

/-- R116, R117: the entry to OPENING: every coil off at one instant, the dropout timer, the context, the loaded counts. -/
def Obligations.EntryToOpening : Prop :=
  ∀ (cause : Cause) (s : State),
    let loaded := (s.seq.state == .closed || s.seq.state == .deferring) && !s.currentBreakable
    let count := fun (x : Word32) => if loaded = true ∧ x ≠ BitVec.allOnes 32 then x + 1 else x
    s.enterOpening cause =
      { s with seq :=
        { s.seq with
          state := .opening, coilInstant := s.sense.time
          timer := some { name := .dropout, start := s.sense.time, counts := 10 * s.profileOr.dropout }
          lastCause := some cause, loadedNeg := count s.seq.loadedNeg, loadedPos := count s.seq.loadedPos
          context := some
            { firstCause := cause, crashSeen := cause == .crash, negWasOn := s.seq.state.drvNeg,
              posWasOn := s.seq.state.drvPos, deEnergizedAt := s.sense.time, loaded := loaded } } }

/-- R106, R122, R124, R125: a CLOSE that no refusal meets energizes the negative main; CLRLOCK leaves LOCKOUT for OPEN when
the levels are clear, with a counter write requested and CONTACTOR raised. The refusals of each come in their order. -/
def Obligations.CloseAndClrlockTakeOrRefuse : Prop :=
  ∀ s : State,
    (s.hands codeClose →
      let refused := fun (a : AnswerCode) => exec (.close []) s = .next (s.answered codeClose 0 a [])
      let ready := s.power.state = .active ∧ s.seq.state = .opened
      (¬ready → refused .state) ∧
      (ready → s.seq.profile = none → refused .noProfile) ∧
      (ready → s.seq.profile ≠ none → s.table.inhibitSet ≠ [] → refused .inhibited) ∧
      (ready → s.seq.profile ≠ none → s.table.inhibitSet = [] → s.engine.state.inFlight = true →
        s.stagedProfile? ≠ none → refused .busy) ∧
      (∀ p, ready → s.seq.profile = some p → s.table.inhibitSet = [] →
        (s.engine.state.inFlight = false ∨ s.stagedProfile? = none) →
        exec (.close []) s =
          .next (State.answered codeClose 0 .accepted []
            { s with seq :=
              { s.seq with
                state := .negClosing, coilInstant := s.sense.time
                timer := some { name := .auxConfirm, start := s.sense.time, counts := 10 * p.auxConfirm } } }))) ∧
    (s.hands codeClrlock →
      let refused := fun (a : AnswerCode) => exec (.clrlock []) s = .next (s.answered codeClrlock 0 a [])
      let clear :=
        s.sense.auxNeg.level = some false ∧ s.sense.auxPos.level = some false ∧ s.sense.crash.level = some false
      (s.seq.state ≠ .lockout → refused .state) ∧
      (s.seq.state = .lockout → ¬clear → refused .notClear) ∧
      (s.seq.state = .lockout → clear →
        exec (.clrlock []) s =
          .next (State.answered codeClrlock 0 .done []
            ({ s with seq :=
              { s.seq with state := .opened, timer := none, context := none, lockoutCause := none } } : State).recorded)))

/-- R111, R112, R113, R114: OPEN and TRIP in every sequencer state. -/
def Obligations.OpenAndTripByState : Prop :=
  ∀ s : State,
    let closing := s.seq.state = .negClosing ∨ s.seq.state = .precharging ∨ s.seq.state = .posClosing
    let atRest := s.seq.state = .opened ∨ s.seq.state = .opening ∨ s.seq.state = .lockout
    (s.hands codeOpen →
      let opened := fun (a : AnswerCode) (u : State) => exec (.openRequest []) s = .next (u.answered codeOpen 0 a [])
      (closing ∨ (s.seq.state = .closed ∧ s.currentBreakable = true) →
        opened .accepted (s.enterOpening .requestedOpen)) ∧
      (∀ p, s.seq.state = .closed → s.currentBreakable = false → s.seq.profile = some p →
        let deferring : State :=
          { s with seq :=
            { s.seq with
              state := .deferring, lastCause := some .requestedOpen
              timer := some { name := .defer, start := s.sense.time, counts := 10 * p.deferMax } } }
        (p.deferMax ≠ 0 → opened .accepted deferring) ∧
        (p.deferMax = 0 → opened .accepted (deferring.enterOpening .requestedOpen))) ∧
      (s.seq.state = .deferring → opened .accepted s) ∧ (atRest → opened .done s)) ∧
    (s.hands codeTrip →
      (closing ∨ s.seq.state = .closed ∨ s.seq.state = .deferring →
        exec (.trip []) s = .next ((s.enterOpening .requestedTrip).answered codeTrip 0 .accepted [])) ∧
      (atRest → exec (.trip []) s = .next (s.answered codeTrip 0 .done [])))

/-- R108, R109, R110, R113, R119, R124, R125: the expiries of the sequencer's timers; at the expiry of dropout, the weld
check, with a counter write requested and CONTACTOR raised. That the opening at the expiry of defer_max is not loaded where
the table already holds a breakable current, its reference sample still to be taken, is the model's reading (log 42). -/
def Obligations.ExpiriesOfTheSequencerTimers : Prop :=
  ∀ s : State, s.vsup = true →
    (s.seq.state = .negClosing → exec .auxConfirmExpiry s = .next (s.enterOpening .auxTimeoutNeg).drive) ∧
    (s.seq.state = .posClosing → exec .auxConfirmExpiry s = .next (s.enterOpening .auxTimeoutPos).drive) ∧
    (s.seq.state = .precharging → exec .prechargeTimeoutExpiry s = .next (s.enterOpening .prechargeTimeout).drive) ∧
    (s.seq.state = .deferring → exec .deferMaxExpiry s = .next (s.enterOpening .requestedOpen).drive) ∧
    (s.seq.state = .opening →
      let ends := fun (x : SeqState) (lockout : Option LockoutCause) =>
        exec .dropoutExpiry s =
          .next ({ s with seq :=
            { s.seq with state := x, timer := none, context := none, lockoutCause := lockout } } : State).recorded.drive
      (s.sense.auxPos.level = some true → ends .lockout (some .weldPos)) ∧
      (s.sense.auxPos.level ≠ some true → s.sense.auxNeg.level = some true → ends .lockout (some .weldNeg)) ∧
      (∀ c, s.sense.auxPos.level ≠ some true → s.sense.auxNeg.level ≠ some true → s.seq.context = some c →
        (c.crashSeen = true → ends .lockout (some .crash)) ∧ (c.crashSeen = false → ends .opened none)))

/-- R102, R107, R109, R111, R113, R115: what a notice and a reference sample do in the states they act in; a met precharge
test with ids in the inhibit set opens with the lowest of them. -/
def Obligations.NoticesReachTheSequencer : Prop :=
  ∀ (rest : List Notice) (s : State), s.vsup = true →
    let taken : State := { s with table := { s.table with notices := rest } }
    let closing := s.seq.state = .negClosing ∨ s.seq.state = .precharging ∨ s.seq.state = .posClosing
    (∀ id, s.table.notices = .inhibit id :: rest →
      (closing → exec .inhibitNotice s = .next (taken.enterOpening (.inhibit id)).drive) ∧
      (¬closing → exec .inhibitNotice s = .next taken.drive)) ∧
    (∀ id, s.table.notices = .trip id :: rest →
      (closing ∨ s.seq.state = .closed ∨ s.seq.state = .deferring →
        exec .tripNotice s = .next (taken.enterOpening (.point id)).drive) ∧
      (s.seq.state = .opened ∨ s.seq.state = .opening ∨ s.seq.state = .lockout →
        exec .tripNotice s = .next taken.drive)) ∧
    (∀ v p, s.table.notices = .reference p.currentPoint v :: rest → s.seq.profile = some p →
      s.seq.state = .deferring →
      (v.natAbs ≤ p.breakLimit → exec .referenceSample s = .next (taken.enterOpening .requestedOpen).drive) ∧
      (p.breakLimit < v.natAbs → exec .referenceSample s = .next taken.drive)) ∧
    (∀ v q p, s.table.notices = .reference p.busPoint v :: rest → s.seq.profile = some p →
      s.seq.state = .precharging → s.valueOf p.packPoint = some q →
      let spent := s.sense.time - s.seq.coilInstant
      let met := p.prechargeRatio * q ≤ 100 * v
      let slow := 10 * p.minPrecharge ≤ spent.toNat
      (¬met → exec .referenceSample s = .next taken.drive) ∧
      (met → ¬slow → exec .referenceSample s = .next (taken.enterOpening .prechargeFast).drive) ∧
      (met → slow → s.table.inhibitSet = [] →
        exec .referenceSample s =
          .next ({ taken with seq :=
            { s.seq with
              state := .posClosing, coilInstant := s.sense.time, lastPrecharge := some spent
              timer := some { name := .auxConfirm, start := s.sense.time, counts := 10 * p.auxConfirm } } }).drive) ∧
      (∀ i more, met → slow → s.table.inhibitSet = i :: more →
        exec .referenceSample s =
          .next (State.enterOpening (.inhibit i)
            { taken with seq := { s.seq with lastPrecharge := some spent } }).drive)) ∧
    (∀ v p, s.table.notices = .reference p.busPoint v :: rest → s.seq.profile = some p →
      s.seq.state = .precharging → s.valueOf p.packPoint = none → exec .referenceSample s = .next taken.drive)

/-! ## Power states -/

/-- R131, R132, R133, R179: SLEEP in each of its outcomes; at the quiet point the counter write that SETTLING waits for is
in flight, or pending behind the write in flight. That frames stop at the entry in the tail while a discovery runs, which is
waited for after the stop, is the model's reading of R67, R82 and R132 (log 41). -/
def Obligations.SleepEntersSettlingOrIsRefused : Prop :=
  ∀ s : State, s.hands codeSleep →
    let refused := fun (a : AnswerCode) => exec (.sleep []) s = .next (s.answered codeSleep 0 a [])
    let ready := s.power.state = .active ∧ s.seq.state.atRest = true
    let free := s.engine.state.inFlight = false ∧ s.keyWriteInFlight = false
    (¬ready → refused .state) ∧ (ready → ¬free → refused .busy) ∧
    (ready → free → s.sense.wake.level = some true → refused .wakeHeld) ∧
    (ready → free → s.sense.wake.level ≠ some true →
      ∃ t, exec (.sleep []) s = .next t ∧ t.power.state = .settling ∧ t.power.wakeSet = .none ∧
        t.engine.state = .idle ∧ t.port.slot = .holding (answerFrame codeSleep .accepted []) ∧
        (s.engine.state = .staging → t.engine.stage = [] ∧ t.attention.set.update = true ∧
          ∃ o, t.engine.outcome = some o ∧ o.outcome = .abandoned ∧ o.version = s.engine.version.getD 0) ∧
        (∀ k r, s.clock.phase = .slot k r → t.clock = s.clock ∧ t.power.quiet = false ∧ t.store = s.store) ∧
        (s.clock.phase = .tail → t.clock.phase = .stopped ∧ t.clock.tail = [] ∧ t.clock.timer = none ∧
          t.clock.number = s.clock.number ∧ t.chain.read = none ∧
          (s.clock.discoveryRunning = false → t.power.quiet = true ∧ t.store = s.store.requested true t.snapshot) ∧
          (s.clock.discoveryRunning = true → t.power.quiet = false ∧ t.store = s.store)))

/-- R130, R134, R138, R142, R143: WAKE in every power state that takes it. -/
def Obligations.WakeByPowerState : Prop :=
  ∀ s : State, s.hands codeWake →
    (s.power.state = .active → exec (.wake []) s = .next (s.answered codeWake 0 .done [])) ∧
    (s.power.state = .settling →
      exec (.wake []) s =
        .next (State.answered codeWake 0 .accepted []
          { s with power := { s.power with wakeSet := { s.power.wakeSet with request := true } } })) ∧
    (s.power.state = .sleepFrame →
      exec (.wake []) s =
        .next (({ s with power := { s.power with wakeSet := { s.power.wakeSet with request := true } } }).transacted 0).drive) ∧
    (s.power.state = .deepSleep →
      ∃ t, exec (.wake []) s = .next t ∧ t.power.state = .waking ∧ t.power.wakeSet.request = true ∧
        t.power.sleepTimer = none ∧ t.pins.hen = true ∧
        t.port.slot = .holding (answerFrame codeWake .accepted []) ∧ t.clock.discoveryPending = false ∧
        t.chain.sent = s.chain.sent ++ [withCrc8 [0x02]] ∧
        t.chain.enumeration = some
          { purpose := .discovery .wake s.clock.active.monitorCount, listening := false, counting := true, found := 0 })

/-- R84, R133, R135 to R142, R145: the counter write that SETTLING waits for takes the part into DEEP_SLEEP, or back to
ACTIVE with a cause gathered; the sleep timer's expiry opens the next sleep frame with its enumeration; the end of the
enumeration starts the sleep round; and the end of the round sleeps again, or wakes with a cause gathered. -/
def Obligations.SleepIsEnteredAndItsFramesOpen : Prop :=
  ∀ s : State, s.vsup = true →
    (∀ (w : CounterWrite) (m : Bool), s.power.state = .settling → s.store.inFlight = .counter w →
      w.forSettling = true → s.power.wakeSet = .none → s.power.reset = .none →
      ∃ t, exec (.counterWriteEnd m) s = .next t ∧ t.power.state = .deepSleep ∧ t.power.sleepFrame = 0 ∧
        t.power.sleepTimer = some s.clock.active.sleepPeriod ∧ t.power.entryFrame = some s.clock.number ∧
        t.pins.hen = false ∧ t.pins.attn = false ∧ t.chain.sleepEntryCount = (List.range 16).countP s.readable ∧
        t.chain.sent = s.chain.sent ++ [withCrc8 [0x03]] ∧ t.chain.roster = s.chain.roster ∧ t.table = s.table ∧
        t.seq = s.seq) ∧
    (∀ n, s.power.state = .deepSleep → s.power.sleepTimer = some n →
      exec .sleepTimerExpiry s =
        .next ({ s with
          power := { s.power with state := .sleepFrame, sleepFrame := s.power.sleepFrame + 1, sleepTimer := none }
          chain :=
            { s.chain with
              enumeration := some { purpose := .sleepFrame, listening := false, counting := true, found := 0 }
              sent := s.chain.sent ++ [withCrc8 [0x02]] } }).drive) ∧
    (∀ (w : CounterWrite) (m : Bool), s.power.state = .settling → s.store.inFlight = .counter w →
      w.forSettling = true → s.power.wakeSet ≠ .none → s.power.reset = .none → s.clock.phase = .stopped →
      s.engine.state ≠ .applying →
      ∃ t, exec (.counterWriteEnd m) s = .next t ∧ t.power.state = .active ∧
        t.power.record =
          { causes := s.power.wakeSet, firstPoint := none, sleepFrames := 0, entryFrame := some s.clock.number } ∧
        t.power.wakeSet = .none ∧ t.attention.set.power = true ∧ t.pins.hen = true ∧ t.clock.opened = true ∧
        t.clock.number = (if s.clock.opened then s.clock.number + 1 else 0) ∧ t.seq = s.seq) ∧
    (∀ e : Enumeration, s.power.state = .sleepFrame → s.chain.enumeration = some e → e.listening = true →
      e.purpose = .sleepFrame → s.chain.round = none →
      let lost := e.found < s.chain.sleepEntryCount
      (s.sleepPoints = [] → s.dueSleepAggregates = [] → s.power.wakeSet = .none → ¬lost →
        exec .enumSilenceExpiry s =
          .next ({ s with
            power := { s.power with state := .deepSleep, sleepTimer := some s.clock.active.sleepPeriod }
            chain := { s.chain with enumeration := none, sent := s.chain.sent ++ [withCrc8 [0x03]] } }).drive) ∧
      (s.sleepPoints = [] → s.dueSleepAggregates = [] → (s.power.wakeSet ≠ .none ∨ lost) →
        ∃ t, exec .enumSilenceExpiry s = .next t ∧ t.power.state = .waking ∧ t.pins.hen = true ∧
          (lost → t.power.wakeSet = { s.power.wakeSet with chain := true }) ∧
          (¬lost → t.power.wakeSet = s.power.wakeSet) ∧
          t.chain.enumeration = some
            { purpose := .discovery .wake s.clock.active.monitorCount, listening := false, counting := true,
              found := 0 } ∧
          t.chain.sent = s.chain.sent ++ [withCrc8 [0x02]] ∧ t.chain.roster = s.chain.roster ∧ t.table = s.table) ∧
      (∀ x rest,
        (∀ id ∈ s.sleepPoints, ∀ y, s.readEntry? id = some y → y.1 < e.found ∧ s.readable y.1 = true) →
        s.readQueue s.sleepPoints (fun a => decide (a < e.found) && s.readable a) = x :: rest →
        ∃ t r, exec .enumSilenceExpiry s = .next t ∧ t.power.state = .sleepFrame ∧ t.chain.round = some r ∧
          r.inSleep = true ∧ r.queue = x :: rest ∧ t.chain.tag = s.chain.tag + 1 ∧
          t.chain.read = some { address := x.1, block := x.2, clear := false, second := false, owner := .round } ∧
          t.chain.sent = s.chain.sent ++ [convertMessage (s.chain.tag + 1), readMessage x.1 x.2 false] ∧
          (lost → t.power.wakeSet = { s.power.wakeSet with chain := true }) ∧
          (¬lost → t.power.wakeSet = s.power.wakeSet) ∧ t.table = s.table)) ∧
    (∀ (r : Read) (q : Round) (b : List Byte) (words : List Nat) (id : Nat) (d : Definition) (l : Live)
        (p : Option PendingPart), s.power.state = .sleepFrame → s.chain.read = some r → r.owner = .round →
      s.chain.round = some q → q.inSleep = true → q.queue = [(r.address, r.block)] →
      checkReply r s.chain.tag b = .good false words → s.dependents q.queue q.points = [id] →
      s.point id = .live d l p → s.dueSleepAggregates = [] →
      let m : Live := match d.channelIn r.block words with
        | some v => l.judged d v s.clock.number
        | none => l.afterMiss d
      let wakes := m.condition ≠ l.condition ∧ d.sleepDivider ≠ none ∧ d.actions.wakes = true ∧
        (m.condition = .warn ∨ m.condition = .tripped ∨ m.condition = .stale)
      ∃ t, exec (.blockReply b) s = .next t ∧ t.point id = .live d m p ∧ t.chain.round = none ∧ t.chain.read = none ∧
        (s.power.wakeSet = .none → ¬wakes → t.power.state = .deepSleep ∧ t.power.wakeSet = .none ∧
          t.power.sleepTimer = some s.clock.active.sleepPeriod ∧ t.pins.hen = false ∧
          t.chain.sent = s.chain.sent ++ [withCrc8 [0x03]]) ∧
        (s.power.wakeSet ≠ .none ∨ wakes → t.power.state = .waking ∧ t.pins.hen = true ∧
          t.chain.sent = s.chain.sent ++ [withCrc8 [0x02]]) ∧
        (wakes → t.power.wakeSet = { s.power.wakeSet with point := true } ∧
          t.power.firstPoint = if s.power.firstPoint.isSome then s.power.firstPoint else some id))

/-- R25, R129, R144, R145: the end of the discovery of WAKING makes the wake transition of the points, writes the wake
record, raises POWER and enters ACTIVE. The clause on the points speaks of those that slot 0 of the frame then opened does
not touch. -/
def Obligations.WakingEndsInActive : Prop :=
  ∀ (e : Enumeration) (cause : DiscoveryCause) (c : Nat) (s : State), s.vsup = true → s.power.state = .waking →
    s.chain.enumeration = some e → e.listening = true → e.purpose = .discovery cause c →
    ∃ t, exec .enumSilenceExpiry s = .next t ∧ t.power.state = .active ∧
      t.power.record =
        { causes := s.power.wakeSet, firstPoint := s.power.firstPoint, sleepFrames := s.power.sleepFrame,
          entryFrame := s.power.entryFrame } ∧
      t.power.wakeSet = .none ∧ t.attention.set.power = true ∧ t.clock.opened = true ∧
      t.clock.number = (if s.clock.opened then s.clock.number + 1 else 0) ∧
      (s.clock.phase = .stopped → s.engine.state ≠ .applying → s.clock.waiting = none → 1 < s.clock.active.slotCount →
        ∀ (id : Nat) (d : Definition) (l : Live), s.point id = .live d l none → d.slot ≠ some 0 →
          let moves := d.sleepDivider = none ∧
            (l.condition = .normal ∨ l.condition = .warn ∨ l.condition = .stale)
          (moves →
            t.point id = .live d { l with condition := .idle, sample := none, missed := 0, excursion := 0 } none ∧
            (id ∈ t.table.inhibitSet ↔ d.actions.inhibit = true)) ∧
          (¬moves → t.point id = .live d l none ∧
            (id ∈ t.table.inhibitSet ↔
              (d.actions.inhibit = true ∧ l.condition ≠ .normal) ∨
                (d.actions.opens = true ∧ l.condition = .tripped))))

/-! ## The Nonvolatile Store -/

/-- R150, R152, R154, R155, R198: the end of a counter write: DONE puts its slot in force, its CRC-16 over the bytes before
it; FAILED erases it, counts and raises STORE; and the next holder of the write path: a pending counter write with the
snapshot of this event, then the suspended bank write, then the waiting one. The place of the CRC-16 in the slot is log 9. -/
def Obligations.CounterWriteEnds : Prop :=
  ∀ (w : CounterWrite) (s : State), s.vsup = true → s.store.inFlight = .counter w → w.forSettling = false →
    (s.store.counterPending = false → s.store.suspended = none → s.store.waiting = none → s.power.reset ≠ .held →
      (∃ t, exec (.counterWriteEnd true) s = .next t ∧ t.counterSlot w.slot = .valid w.sequence w.snapshot ∧
        (t.store.slotBytes w.slot).length = 29 ∧
        (t.store.slotBytes w.slot).drop 27 = leWord16 (crc16 ((t.store.slotBytes w.slot).take 27)) ∧
        t.counterSlot w.slot.other = s.counterSlot w.slot.other ∧ t.store.slotInForce = some w.slot ∧
        t.store.sequence = w.sequence ∧ t.store.inFlight = .none ∧ t.attention = s.attention ∧ t.power = s.power) ∧
      (∃ t, exec (.counterWriteEnd false) s = .next t ∧ t.counterSlot w.slot = .invalid ∧
        t.counterSlot w.slot.other = s.counterSlot w.slot.other ∧ t.store.slotInForce = s.store.slotInForce ∧
        t.store.sequence = s.store.sequence ∧ t.store.inFlight = .none ∧ t.attention.set.store = true ∧
        t.store.failures = (if s.store.failures = 65535 then 65535 else s.store.failures + 1) ∧ t.power = s.power)) ∧
    (∀ m : Bool, s.store.counterPending = true →
      ∃ t, exec (.counterWriteEnd m) s = .next t ∧
        t.store.inFlight = .counter (t.store.nextCounterWrite s.store.settlingWaits t.snapshot) ∧
        t.store.slotInForce = (if m = true then some w.slot else s.store.slotInForce) ∧
        t.store.counterPending = false ∧ t.store.settlingWaits = false ∧ t.store.suspended = s.store.suspended ∧
        t.store.waiting = s.store.waiting ∧ t.power = s.power) ∧
    (∀ (m : Bool) (b : BankWrite), s.store.counterPending = false → s.store.suspended = some b →
      ∃ t, exec (.counterWriteEnd m) s = .next t ∧ t.store.inFlight = .bank b ∧ t.store.suspended = none ∧
        t.store.waiting = s.store.waiting ∧ (∀ x, t.bank x = s.bank x) ∧ (∀ x, t.bankState x = s.bankState x) ∧
        t.power = s.power) ∧
    (∀ (m : Bool) (r : BankRequest), s.store.counterPending = false → s.store.suspended = none →
      s.store.waiting = some r →
      ∃ t, exec (.counterWriteEnd m) s = .next t ∧
        t.store.inFlight =
          .bank { target := s.writeTarget, version := r.version, image := r.image, unit := .header } ∧
        t.store.waiting = none ∧ t.bankState s.writeTarget = .interrupted ∧
        t.bank s.writeTarget.other = s.bank s.writeTarget.other ∧ t.power = s.power)

/-- R152, R153, R155, R173: the ends of the units of a bank write. With no counter write pending the next unit follows, or
the write ends; with one pending it starts, and the bank write waits with its next unit, or has ended. That the header's
bytes stand from the start of the write, and those of a page, of CLOSE and of RETRACT from the end of their unit, and that
RETRACT leaves 0xFF in the place of each mark and the rest of the header as OPEN wrote it, is the model's choice (log 12). -/
def Obligations.BankWriteUnitsEnd : Prop :=
  ∀ (w : BankWrite) (m : Bool) (s : State), s.vsup = true → s.store.inFlight = .bank w →
    let last := s.store.suspended = none ∧ s.store.waiting = none ∧ s.power.reset ≠ .held
    let goesOn := fun (t : State) (next : BankUnit) =>
      (s.store.counterPending = false → t.store.inFlight = .bank { w with unit := next } ∧
        t.store.suspended = s.store.suspended) ∧
      (s.store.counterPending = true → t.store.suspended = some { w with unit := next } ∧
        t.store.inFlight = .counter (t.store.nextCounterWrite s.store.settlingWaits t.snapshot) ∧
        t.store.counterPending = false ∧ t.store.settlingWaits = false) ∧
      t.store.activeBank = s.store.activeBank ∧ t.bankState w.target = s.bankState w.target ∧ t.engine = s.engine ∧
      t.table = s.table
    let ends := fun (t : State) =>
      (s.store.counterPending = false → last → t.store.inFlight = .none) ∧
      (s.store.counterPending = true →
        t.store.inFlight = .counter (t.store.nextCounterWrite s.store.settlingWaits t.snapshot) ∧
        t.store.counterPending = false ∧ t.store.settlingWaits = false) ∧
      t.bank w.target.other = s.bank w.target.other
    let free := s.store.counterPending = true ∨ last
    (w.unit = .header →
      ∃ t, exec (.bankWriteUnitEnd m) s = .next t ∧ goesOn t (.page 1) ∧ (∀ b, t.bank b = s.bank b)) ∧
    (∀ k, w.unit = .page k →
      ∃ t, exec (.bankWriteUnitEnd m) s = .next t ∧ goesOn t (if k < 32 then .page (k + 1) else .check) ∧
        t.bank w.target.other = s.bank w.target.other ∧
        (∀ a, (t.bank w.target).read a =
          if pageAddress k ≤ a ∧ a < pageAddress k + (pageBytes w.image k).length then
            (pageBytes w.image k).getD (a - pageAddress k) 0xFF
          else (s.bank w.target).read a)) ∧
    (w.unit = .check →
      ∃ t, exec (.bankWriteUnitEnd m) s = .next t ∧ goesOn t (if m = true then .close else .retract) ∧
        (∀ b, t.bank b = s.bank b)) ∧
    (w.unit = .close → m = false →
      ∃ t, exec (.bankWriteUnitEnd m) s = .next t ∧ goesOn t .retract ∧ (∀ b, t.bank b = s.bank b)) ∧
    (w.unit = .close → m = true → free →
      ∃ t, exec (.bankWriteUnitEnd m) s = .next t ∧ ends t ∧ t.store.activeBank = some w.target ∧
        t.store.activeVersion = w.version ∧ t.bankState w.target = .valid ∧ t.engine.state = .applying ∧
        t.engine.stage = s.engine.stage ∧ t.table = s.table ∧
        (∀ a, (t.bank w.target).read a =
          if 12 ≤ a ∧ a < 16 then ([0x3C, 0xA5, 0x69, 0xF0] : List Byte).getD (a - 12) 0
          else (s.bank w.target).read a)) ∧
    (w.unit = .retract → free →
      ∃ t, exec (.bankWriteUnitEnd m) s = .next t ∧ ends t ∧
        t.store.activeBank = s.store.activeBank ∧ t.store.activeVersion = s.store.activeVersion ∧
        t.bankState w.target = .empty ∧ t.engine.state = .idle ∧ t.attention.set.update = true ∧
        (∀ a, (t.bank w.target).read a =
          if a < 4 ∨ (12 ≤ a ∧ a < 16) then 0xFF else (s.bank w.target).read a) ∧
        ∃ o, t.engine.outcome = some o ∧ o.outcome = .writeFailed ∧ o.version = s.engine.version.getD 0)

/-! ## The Update Engine and the Attention Unit -/

/-- R165: UOPEN: its refusals in order, and the transaction it opens; in sleep no request but WAKE is taken. -/
def Obligations.UopenOpensOrIsRefused : Prop :=
  ∀ (b : List Byte) (s : State), s.arrives → s.power.state ≠ .deepSleep → s.power.state ≠ .sleepFrame →
    let refused := fun (a : AnswerCode) => exec (.uopen b) s = .next (s.answered codeUopen b.length a [])
    let v : Word32 := word32 b 0
    (s.power.state ≠ .active → refused .starting) ∧
    (s.power.state = .active → b.length ≠ 4 → refused .badArgument) ∧
    (s.power.state = .active → b.length = 4 → s.engine.state ≠ .idle → refused .state) ∧
    (s.power.state = .active → b.length = 4 → s.engine.state = .idle → s.engine.key = none → refused .noKey) ∧
    (s.power.state = .active → b.length = 4 → s.engine.state = .idle → s.engine.key ≠ none →
      s.engine.tamperLatch = true → refused .tampered) ∧
    (s.power.state = .active → b.length = 4 → s.engine.state = .idle → s.engine.key ≠ none →
      s.engine.tamperLatch = false → v.toNat ≤ s.store.activeVersion.toNat → refused .rollback) ∧
    (s.power.state = .active → b.length = 4 → s.engine.state = .idle → s.engine.key ≠ none →
      s.engine.tamperLatch = false → s.store.activeVersion.toNat < v.toNat →
      exec (.uopen b) s =
        .next (State.answered codeUopen 4 .done []
          { s with engine :=
            { s.engine with state := .staging, stage := [], version := some v, commitTag := none } }))

/-- R166, R167: a USTAGE that no refusal meets replaces the item of its target in its place, or appends it. -/
def Obligations.UstagePlacesTheItem : Prop :=
  ∀ (b : List Byte) (x : Item) (s : State), s.hands codeUstage → ustageLengthOk b = true →
    s.engine.state = .staging → Item.decode b = some x → x.wellFormed = true → s.itemWaits x = false →
    (∀ i, s.engine.stage.findIdx? x.sameTarget = some i →
      exec (.ustage b) s =
        .next (State.answered codeUstage b.length .done (le8 (i + 1) ++ le8 s.engine.stage.length)
          { s with engine := { s.engine with stage := s.engine.stage.set i x } })) ∧
    (s.engine.stage.findIdx? x.sameTarget = none → s.engine.stage.length < 32 →
      exec (.ustage b) s =
        .next (State.answered codeUstage b.length .done
          (le8 (s.engine.stage.length + 1) ++ le8 (s.engine.stage.length + 1))
          { s with engine := { s.engine with stage := s.engine.stage ++ [x] } }))

/-- R168, R179: UCOMMIT and UABANDON on an open transaction. -/
def Obligations.CommitAndAbandon : Prop :=
  ∀ s : State,
    (∀ b : List Byte, s.hands codeUcommit → s.engine.state = .staging → s.engine.stage ≠ [] → b.length = 32 →
      exec (.ucommit b) s =
        .next (State.answered codeUcommit 32 .accepted []
          { s with engine := { s.engine with state := .verifying, commitTag := some b } })) ∧
    (s.hands codeUabandon → (s.engine.state = .staging ∨ s.engine.state = .verifying) →
      let record : OutcomeRecord :=
        { outcome := .abandoned, version := s.engine.version.getD 0, itemIndex := none, reason := none }
      exec (.uabandon []) s =
        .next (State.answered codeUabandon 0 .done []
          { s with
            engine :=
              { s.engine with
                state := .idle, stage := [], version := none, commitTag := none, outcome := some record }
            attention := { s.attention with set := { s.attention.set with update := true } } }))

/-- R168 to R171, R173: the completion of a verification: TAG_BAD, INVALID, or the bank write of the resulting image. Which
items R171 counts as concerned, for the index of an INVALID, is the model's reading (log 22). -/
def Obligations.VerificationEnds : Prop :=
  ∀ s : State, s.vsup = true → s.engine.state = .verifying →
    let good := s.engine.commitTag =
      some (hmacSha256 ((s.engine.key.map (·.toList)).getD []) (commitMessage (s.engine.version.getD 0) s.engine.stage))
    let ended := fun (o : Outcome) (index : Option Nat) (reason : Option InvalidReason) =>
      let record : OutcomeRecord :=
        { outcome := o, version := s.engine.version.getD 0, itemIndex := index, reason := reason }
      exec .verifyComplete s =
        .next ({ s with
          engine :=
            { s.engine with
              state := .idle, stage := [], version := none, commitTag := none, outcome := some record }
          attention := { s.attention with set := { s.attention.set with update := true } } }).drive
    (¬good → ended .tagBad none none) ∧
    (∀ reason index, good → s.validate = some (reason, index) → ended .invalid index (some reason)) ∧
    (good → s.validate = none → s.store.inFlight = .none →
      ∃ t w, exec .verifyComplete s = .next t ∧ t.engine.state = .writing ∧ t.store.inFlight = .bank w ∧
        w.target = s.writeTarget ∧ w.image = s.resultingImage ∧ w.version = s.engine.version.getD 0 ∧
        w.unit = .header ∧ t.bankState w.target = .interrupted ∧ t.store.activeBank = s.store.activeBank ∧
        t.table = s.table)

/-- R156, R163, R164, R198: KEYINST and FINLOCK start their key write and leave the answer waiting; the end of the write: the
copy with its CRC-16 over the bytes before it (its place is log 9), the live key, and the answer that still waits. -/
def Obligations.KeyWritesFromRequestToEnd : Prop :=
  ∀ s : State,
    let free := s.engine.finalLock = false ∧ s.keyRecordInForce.finalLock = false ∧ s.storeBusy = false
    (∀ b : List Byte, free → s.hands codeKeyinst → b.length = 32 → s.engine.state = .idle →
      ∃ t w, exec (.keyinst b) s = .next t ∧ t.port.slot = .waiting codeKeyinst ∧ t.store.inFlight = .key w ∧
        (∃ k : Key, k.toList = b ∧ w.record = { key := some k, finalLock := false }) ∧ some w.copy ≠ s.store.keyInForce ∧ t.engine = s.engine) ∧
    (∀ k : Key, free → s.hands codeFinlock → s.engine.key = some k →
      ∃ t w, exec (.finlock []) s = .next t ∧ t.port.slot = .waiting codeFinlock ∧ t.store.inFlight = .key w ∧
        w.record = { key := some k, finalLock := true } ∧ some w.copy ≠ s.store.keyInForce ∧ t.engine = s.engine) ∧
    (∀ w, s.vsup = true → s.store.inFlight = .key w → s.store.counterPending = false → s.store.suspended = none →
      s.store.waiting = none → s.power.reset ≠ .held →
      (∃ t, exec (.keyWriteEnd true) s = .next t ∧ t.keyCopy w.copy = .valid w.generation w.record ∧
        (t.store.copyBytes w.copy).length = 40 ∧
        (t.store.copyBytes w.copy).drop 38 = leWord16 (crc16 ((t.store.copyBytes w.copy).take 38)) ∧
        t.store.keyInForce = some w.copy ∧ t.engine.key = w.record.key ∧ t.engine.finalLock = w.record.finalLock ∧
        t.store.inFlight = .none ∧
        (s.port.slot = .waiting w.requester → t.port.slot = .holding (answerFrame w.requester .done [0])) ∧
        (s.port.slot ≠ .waiting w.requester → t.port.slot = s.port.slot)) ∧
      (∃ t, exec (.keyWriteEnd false) s = .next t ∧ t.keyCopy w.copy = .erased ∧
        t.store.keyInForce = s.store.keyInForce ∧ t.engine.key = s.engine.key ∧
        t.engine.finalLock = s.engine.finalLock ∧ t.attention.set.store = true ∧ t.store.inFlight = .none ∧
        (s.port.slot = .waiting w.requester → t.port.slot = .holding (answerFrame w.requester .done [1])) ∧
        (s.port.slot ≠ .waiting w.requester → t.port.slot = s.port.slot)))

/-- R152, R181: CLRTAMP: its refusals in order, the latch it clears, and the counter write it requests. -/
def Obligations.ClrtampNeedsItsTag : Prop :=
  ∀ (b : List Byte) (s : State), s.hands codeClrtamp →
    let refused := fun (a : AnswerCode) => exec (.clrtamp b) s = .next (s.answered codeClrtamp b.length a [])
    let expected := hmacSha256 ((s.engine.key.map (·.toList)).getD []) ([0xA7] ++ deviceBytes ++ leWord32 s.engine.tamperCount)
    (b.length ≠ 32 → refused .badArgument) ∧
    (b.length = 32 → s.engine.tamperLatch = false → refused .state) ∧
    (b.length = 32 → s.engine.tamperLatch = true → s.engine.key = none → refused .noKey) ∧
    (b.length = 32 → s.engine.tamperLatch = true → s.engine.key ≠ none → b ≠ expected → refused .tagBad) ∧
    (b.length = 32 → s.engine.tamperLatch = true → s.engine.key ≠ none → b = expected →
      let cleared : State := { s with engine := { s.engine with tamperLatch := false } }
      exec (.clrtamp b) s =
        .next (State.answered codeClrtamp 32 .done []
          { cleared with store := s.store.requested false cleared.snapshot }))

/-- R192: MASK: handed in ACTIVE and SETTLING, refused STARTING while the part starts, refused with a body of another
length; ATTN takes its level at once. -/
def Obligations.MaskReplacesTheMask : Prop :=
  ∀ (m : Byte) (body : List Byte) (s : State), s.arrives →
    let mask : Causes :=
      { points := m.getLsbD 0, contactor := m.getLsbD 1, chain := m.getLsbD 2, frame := m.getLsbD 3,
        update := m.getLsbD 4, power := m.getLsbD 5, tamper := m.getLsbD 6, store := m.getLsbD 7 }
    let handed := s.power.state = .active ∨ s.power.state = .settling
    let starting := s.power.state = .loading ∨ s.power.state = .discovering ∨ s.power.state = .waking
    (handed →
      exec (.mask [m]) s =
        .next (State.answered codeMask 1 .done [m, s.attention.set.toByte]
          { s with attention := { s.attention with mask := mask } }) ∧
      ((State.answered codeMask 1 .done [m, s.attention.set.toByte]
        { s with attention := { s.attention with mask := mask } }).pins.attn = s.attention.set.meets mask)) ∧
    (handed → body.length ≠ 1 →
      exec (.mask body) s = .next (s.answered codeMask body.length .badArgument [])) ∧
    (starting → exec (.mask body) s = .next (s.answered codeMask body.length .starting []))

/-- R130, R193, R194: STATUS and IDENT answer in every power state but the two of sleep, and change nothing. -/
def Obligations.StatusAndIdentAnswer : Prop :=
  ∀ s : State, s.arrives → s.power.state ≠ .deepSleep → s.power.state ≠ .sleepFrame →
    exec (.status []) s =
      .next (s.answered codeStatus 0 .done
        ([s.attention.set.toByte, s.attention.mask.toByte] ++ le8 s.power.state.code ++ le8 s.seq.state.code ++
          le8 s.engine.state.code ++ leWord32 s.clock.number ++ le16 s.table.inhibitSet.length ++
          le16 s.table.changedSet.length ++ le8 s.clock.tail.length)) ∧
    exec (.ident []) s =
      .next (s.answered codeIdent 0 .done
        (deviceBytes ++ [0xB4, 3] ++ le16 384 ++ [16, 32, 32, 4, 16, 64] ++
          (if s.store.ready = true then
            [1, boolByte s.engine.key.isSome, boolByte s.engine.finalLock] ++ leWord32 s.store.activeVersion
           else List.replicate 7 0)))
end

