-- ==== Sys2Proof/Laws/Areas.lean ====
section
/-! SUPPORT. The counter slots and the key copies: what is written is read back, and an erased or cut area is not valid. -/

namespace Sys2Proof.Laws

open Sys2Proof.Machine

/-! ### Areas of bytes -/

theorem toList_areaOf {n : Nat} {b : List Byte} (h : b.length = n) : (areaOf n b).toList = b := by
  subst h
  apply List.ext_getElem
  · simp
  · intro i h1 h2
    simp [areaOf, List.getD_eq_getElem?_getD]

theorem areaOf_toList {n : Nat} (v : Vector Byte n) : areaOf n v.toList = v := by
  have h : (areaOf n v.toList).toList = v.toList := toList_areaOf (by simp)
  exact Vector.toList_inj.1 h

theorem crcHolds_withCrc16 (b : List Byte) : crcHolds (withCrc16 b) = true := by
  have hl : (leWord16 (crc16 b)).length = 2 := rfl
  have hn : (withCrc16 b).length - 2 = b.length := by simp [withCrc16, hl]
  unfold crcHolds
  rw [hn]
  simp [withCrc16]

/-! ### Numbers read back -/

theorem word32_of_bytes (w : Word32) (b : List Byte) (i : Nat) (h : (b.drop i).take 4 = leWord32 w) : word32 b i = w := by
  have hg : ∀ k, k < 4 → b.getD (i + k) 0 = (leWord32 w).getD k 0 := by
    intro k hk
    rw [← h]
    simp [List.getD_eq_getElem?_getD, hk]
  have h0 := hg 0 (by omega)
  have h1 := hg 1 (by omega)
  have h2 := hg 2 (by omega)
  have h3 := hg 3 (by omega)
  simp only [Nat.add_zero] at h0
  have hw := w.isLt
  apply BitVec.eq_of_toNat_eq
  simp only [word32, u32, u8, h0, h1, h2, h3, leWord32, le32, List.getD_cons_zero, List.getD_cons_succ,
    BitVec.toNat_ofNat]
  omega

theorem u8_boolByte (b : List Byte) (i : Nat) (x : Bool) (h : b.getD i 0 = boolByte x) : (u8 b i == 1) = x := by
  unfold u8
  rw [h]
  cases x <;> rfl

theorem lockoutCause_ofCode (x : Option LockoutCause) : LockoutCause.ofCode (lockoutCode x) = x := by
  cases x with
  | none => rfl
  | some c => cases c <;> rfl

/-! ### Counter slots (R150) -/

theorem slotFields_length (n : Word32) (x : CounterSnapshot) : (slotFields n x).length = 27 := rfl

/-- R150: the slot that a counter write leaves is valid and holds its sequence and snapshot. -/
@[simp] theorem decode_encode_slot (n : Word32) (x : CounterSnapshot) :
    CounterSlot.decode (CounterSlot.encode n x) = .valid n x := by
  have hb : (CounterSlot.encode n x).toList = withCrc16 (slotFields n x) := toList_areaOf rfl
  have hc : (lockoutCode x.lockoutCause) % 256 = lockoutCode x.lockoutCause := by
    rcases x.lockoutCause with _ | c
    · rfl
    · cases c <;> rfl
  have hcode : u8 (withCrc16 (slotFields n x)) 21 = lockoutCode x.lockoutCause := hc
  unfold CounterSlot.decode
  simp only [hb, crcHolds_withCrc16, if_true]
  rw [word32_of_bytes n _ 0 rfl, word32_of_bytes x.closeNeg _ 4 rfl, word32_of_bytes x.loadedNeg _ 8 rfl,
    word32_of_bytes x.closePos _ 12 rfl, word32_of_bytes x.loadedPos _ 16 rfl, word32_of_bytes x.tamperCount _ 23 rfl,
    u8_boolByte _ 20 x.lockoutFlag rfl, u8_boolByte _ 22 x.tamperLatch rfl, hcode, lockoutCause_ofCode]

@[simp] theorem decode_erased_slot : CounterSlot.decode (erasedArea 29) = .invalid := by decide +kernel

/-- R161: a slot whose write a power loss cut is invalid. -/
@[simp] theorem decode_cutSlot (s : State) : CounterSlot.decode s.cutSlot = .invalid := by
  unfold State.cutSlot
  split
  · assumption
  · exact decode_erased_slot

/-! ### Key copies (R151) -/

theorem copyFields_length (g : Word32) (r : KeyRecord) : (copyFields g r).length = 38 := by
  cases h : r.key <;> simp [copyFields, leWord32, le32, h]

/-- R151: the copy that a key write leaves is VALID and holds its generation and record. -/
@[simp] theorem decode_encode_copy (g : Word32) (r : KeyRecord) : KeyCopy.decode (KeyCopy.encode g r) = .valid g r := by
  have hl : (withCrc16 (copyFields g r)).length = 40 := by
    show (copyFields g r ++ leWord16 (crc16 (copyFields g r))).length = 40
    rw [List.length_append, copyFields_length]
    rfl
  have hb : (KeyCopy.encode g r).toList = withCrc16 (copyFields g r) := toList_areaOf hl
  unfold KeyCopy.decode
  simp only [hb, crcHolds_withCrc16, if_true]
  rw [word32_of_bytes g _ 0 rfl]
  obtain ⟨key, lock⟩ := r
  generalize hcrc : crc16 (copyFields g { key := key, finalLock := lock }) = c
  have hw : withCrc16 (copyFields g { key := key, finalLock := lock }) =
      copyFields g { key := key, finalLock := lock } ++ leWord16 c := by rw [withCrc16, hcrc]
  rw [hw]
  cases key with
  | none =>
    rw [u8_boolByte _ 37 lock rfl]
    rfl
  | some k =>
    have hk : k.toList.length = 32 := by simp
    have hbytes : copyFields g { key := some k, finalLock := lock } ++ leWord16 c =
        (leWord32 g ++ [1]) ++ (k.toList ++ ([boolByte lock] ++ leWord16 c)) := by
      simp [copyFields, boolByte]
    have hkey : ((copyFields g { key := some k, finalLock := lock } ++ leWord16 c).drop 5).take 32 = k.toList := by
      rw [hbytes, List.drop_left' (by rfl), List.take_left' hk]
    have hlock : (copyFields g { key := some k, finalLock := lock } ++ leWord16 c).getD 37 0 = boolByte lock := by
      rw [hbytes, List.getD_eq_getElem?_getD, List.getElem?_append_right (by simp [leWord32, le32])]
      rw [List.getElem?_append_right (by simp [leWord32, le32, hk])]
      simp [leWord32, le32, hk]
    rw [u8_boolByte _ 37 lock hlock, hkey, areaOf_toList]
    rfl

@[simp] theorem decode_erased_copy : KeyCopy.decode (erasedArea 40) = .erased := by decide +kernel

/-- R161: a copy whose write a power loss cut is BAD or ERASED. -/
theorem decode_cutCopy (s : State) : KeyCopy.decode s.cutCopy = .bad ∨ KeyCopy.decode s.cutCopy = .erased := by
  unfold State.cutCopy
  split
  · exact Or.inr (by assumption)
  · exact Or.inl (by assumption)
  · exact Or.inr decode_erased_copy

end Sys2Proof.Laws
end

