-- ==== Sys2Proof/Laws/State.lean ====
section
/-! SUPPORT. One lemma per field of State per named update: what it is afterwards. -/

namespace Sys2Proof.Laws

open Sys2Proof.Machine

/-! ### setPoint -/

@[simp] theorem setPoint_vsup (s : State) (id : Nat) (p : Point) :
    (s.setPoint id p).vsup = s.vsup := rfl
@[simp] theorem setPoint_pins (s : State) (id : Nat) (p : Point) :
    (s.setPoint id p).pins = s.pins := rfl
@[simp] theorem setPoint_port (s : State) (id : Nat) (p : Point) :
    (s.setPoint id p).port = s.port := rfl
@[simp] theorem setPoint_table (s : State) (id : Nat) (p : Point) :
    (s.setPoint id p).table = { s.table with points := s.table.points.setIfInBounds id p } := rfl
@[simp] theorem setPoint_clock (s : State) (id : Nat) (p : Point) :
    (s.setPoint id p).clock = s.clock := rfl
@[simp] theorem setPoint_chain (s : State) (id : Nat) (p : Point) :
    (s.setPoint id p).chain = s.chain := rfl
@[simp] theorem setPoint_sense (s : State) (id : Nat) (p : Point) :
    (s.setPoint id p).sense = s.sense := rfl
@[simp] theorem setPoint_seq (s : State) (id : Nat) (p : Point) :
    (s.setPoint id p).seq = s.seq := rfl
@[simp] theorem setPoint_power (s : State) (id : Nat) (p : Point) :
    (s.setPoint id p).power = s.power := rfl
@[simp] theorem setPoint_store (s : State) (id : Nat) (p : Point) :
    (s.setPoint id p).store = s.store := rfl
@[simp] theorem setPoint_engine (s : State) (id : Nat) (p : Point) :
    (s.setPoint id p).engine = s.engine := rfl
@[simp] theorem setPoint_attention (s : State) (id : Nat) (p : Point) :
    (s.setPoint id p).attention = s.attention := rfl
@[simp] theorem setPoint_freeIndex (s : State) (id : Nat) (p : Point) :
    (s.setPoint id p).freeIndex = s.freeIndex := rfl
@[simp] theorem setPoint_pending (s : State) (id : Nat) (p : Point) :
    (s.setPoint id p).pending = s.pending := rfl

/-! ### sendNotice -/

@[simp] theorem sendNotice_vsup (s : State) (n : Notice) :
    (s.sendNotice n).vsup = s.vsup := rfl
@[simp] theorem sendNotice_pins (s : State) (n : Notice) :
    (s.sendNotice n).pins = s.pins := rfl
@[simp] theorem sendNotice_port (s : State) (n : Notice) :
    (s.sendNotice n).port = s.port := rfl
@[simp] theorem sendNotice_table (s : State) (n : Notice) :
    (s.sendNotice n).table = { s.table with notices := s.table.notices ++ [n] } := rfl
@[simp] theorem sendNotice_clock (s : State) (n : Notice) :
    (s.sendNotice n).clock = s.clock := rfl
@[simp] theorem sendNotice_chain (s : State) (n : Notice) :
    (s.sendNotice n).chain = s.chain := rfl
@[simp] theorem sendNotice_sense (s : State) (n : Notice) :
    (s.sendNotice n).sense = s.sense := rfl
@[simp] theorem sendNotice_seq (s : State) (n : Notice) :
    (s.sendNotice n).seq = s.seq := rfl
@[simp] theorem sendNotice_power (s : State) (n : Notice) :
    (s.sendNotice n).power = s.power := rfl
@[simp] theorem sendNotice_store (s : State) (n : Notice) :
    (s.sendNotice n).store = s.store := rfl
@[simp] theorem sendNotice_engine (s : State) (n : Notice) :
    (s.sendNotice n).engine = s.engine := rfl
@[simp] theorem sendNotice_attention (s : State) (n : Notice) :
    (s.sendNotice n).attention = s.attention := rfl
@[simp] theorem sendNotice_freeIndex (s : State) (n : Notice) :
    (s.sendNotice n).freeIndex = s.freeIndex := rfl
@[simp] theorem sendNotice_pending (s : State) (n : Notice) :
    (s.sendNotice n).pending = s.pending := rfl

/-! ### raise -/

@[simp] theorem raise_vsup (s : State) (c : CauseName) :
    (s.raise c).vsup = s.vsup := rfl
@[simp] theorem raise_pins (s : State) (c : CauseName) :
    (s.raise c).pins = s.pins := rfl
@[simp] theorem raise_port (s : State) (c : CauseName) :
    (s.raise c).port = s.port := rfl
@[simp] theorem raise_table (s : State) (c : CauseName) :
    (s.raise c).table = s.table := rfl
@[simp] theorem raise_clock (s : State) (c : CauseName) :
    (s.raise c).clock = s.clock := rfl
@[simp] theorem raise_chain (s : State) (c : CauseName) :
    (s.raise c).chain = s.chain := rfl
@[simp] theorem raise_sense (s : State) (c : CauseName) :
    (s.raise c).sense = s.sense := rfl
@[simp] theorem raise_seq (s : State) (c : CauseName) :
    (s.raise c).seq = s.seq := rfl
@[simp] theorem raise_power (s : State) (c : CauseName) :
    (s.raise c).power = s.power := rfl
@[simp] theorem raise_store (s : State) (c : CauseName) :
    (s.raise c).store = s.store := rfl
@[simp] theorem raise_engine (s : State) (c : CauseName) :
    (s.raise c).engine = s.engine := rfl
@[simp] theorem raise_attention (s : State) (c : CauseName) :
    (s.raise c).attention = { s.attention with set := s.attention.set.put c true } := rfl
@[simp] theorem raise_freeIndex (s : State) (c : CauseName) :
    (s.raise c).freeIndex = s.freeIndex := rfl
@[simp] theorem raise_pending (s : State) (c : CauseName) :
    (s.raise c).pending = s.pending := rfl

/-! ### clear -/

@[simp] theorem clear_vsup (s : State) (c : CauseName) :
    (s.clear c).vsup = s.vsup := rfl
@[simp] theorem clear_pins (s : State) (c : CauseName) :
    (s.clear c).pins = s.pins := rfl
@[simp] theorem clear_port (s : State) (c : CauseName) :
    (s.clear c).port = s.port := rfl
@[simp] theorem clear_table (s : State) (c : CauseName) :
    (s.clear c).table = s.table := rfl
@[simp] theorem clear_clock (s : State) (c : CauseName) :
    (s.clear c).clock = s.clock := rfl
@[simp] theorem clear_chain (s : State) (c : CauseName) :
    (s.clear c).chain = s.chain := rfl
@[simp] theorem clear_sense (s : State) (c : CauseName) :
    (s.clear c).sense = s.sense := rfl
@[simp] theorem clear_seq (s : State) (c : CauseName) :
    (s.clear c).seq = s.seq := rfl
@[simp] theorem clear_power (s : State) (c : CauseName) :
    (s.clear c).power = s.power := rfl
@[simp] theorem clear_store (s : State) (c : CauseName) :
    (s.clear c).store = s.store := rfl
@[simp] theorem clear_engine (s : State) (c : CauseName) :
    (s.clear c).engine = s.engine := rfl
@[simp] theorem clear_attention (s : State) (c : CauseName) :
    (s.clear c).attention = { s.attention with set := s.attention.set.put c false } := rfl
@[simp] theorem clear_freeIndex (s : State) (c : CauseName) :
    (s.clear c).freeIndex = s.freeIndex := rfl
@[simp] theorem clear_pending (s : State) (c : CauseName) :
    (s.clear c).pending = s.pending := rfl

/-! ### addWake -/

@[simp] theorem addWake_vsup (s : State) (c : WakeName) :
    (s.addWake c).vsup = s.vsup := rfl
@[simp] theorem addWake_pins (s : State) (c : WakeName) :
    (s.addWake c).pins = s.pins := rfl
@[simp] theorem addWake_port (s : State) (c : WakeName) :
    (s.addWake c).port = s.port := rfl
@[simp] theorem addWake_table (s : State) (c : WakeName) :
    (s.addWake c).table = s.table := rfl
@[simp] theorem addWake_clock (s : State) (c : WakeName) :
    (s.addWake c).clock = s.clock := rfl
@[simp] theorem addWake_chain (s : State) (c : WakeName) :
    (s.addWake c).chain = s.chain := rfl
@[simp] theorem addWake_sense (s : State) (c : WakeName) :
    (s.addWake c).sense = s.sense := rfl
@[simp] theorem addWake_seq (s : State) (c : WakeName) :
    (s.addWake c).seq = s.seq := rfl
@[simp] theorem addWake_power (s : State) (c : WakeName) :
    (s.addWake c).power = { s.power with wakeSet := s.power.wakeSet.add c } := rfl
@[simp] theorem addWake_store (s : State) (c : WakeName) :
    (s.addWake c).store = s.store := rfl
@[simp] theorem addWake_engine (s : State) (c : WakeName) :
    (s.addWake c).engine = s.engine := rfl
@[simp] theorem addWake_attention (s : State) (c : WakeName) :
    (s.addWake c).attention = s.attention := rfl
@[simp] theorem addWake_freeIndex (s : State) (c : WakeName) :
    (s.addWake c).freeIndex = s.freeIndex := rfl
@[simp] theorem addWake_pending (s : State) (c : WakeName) :
    (s.addWake c).pending = s.pending := rfl

/-! ### drive -/

@[simp] theorem drive_vsup (s : State) :
    (s.drive).vsup = s.vsup := rfl
@[simp] theorem drive_pins (s : State) :
    (s.drive).pins = s.levels := rfl
@[simp] theorem drive_port (s : State) :
    (s.drive).port = s.port := rfl
@[simp] theorem drive_table (s : State) :
    (s.drive).table = s.table := rfl
@[simp] theorem drive_clock (s : State) :
    (s.drive).clock = s.clock := rfl
@[simp] theorem drive_chain (s : State) :
    (s.drive).chain = s.chain := rfl
@[simp] theorem drive_sense (s : State) :
    (s.drive).sense = s.sense := rfl
@[simp] theorem drive_seq (s : State) :
    (s.drive).seq = s.seq := rfl
@[simp] theorem drive_power (s : State) :
    (s.drive).power = s.power := rfl
@[simp] theorem drive_store (s : State) :
    (s.drive).store = s.store := rfl
@[simp] theorem drive_engine (s : State) :
    (s.drive).engine = s.engine := rfl
@[simp] theorem drive_attention (s : State) :
    (s.drive).attention = s.attention := rfl
@[simp] theorem drive_freeIndex (s : State) :
    (s.drive).freeIndex = s.freeIndex := rfl
@[simp] theorem drive_pending (s : State) :
    (s.drive).pending = s.pending := rfl

/-! ### nextChoice -/

@[simp] theorem nextChoice_vsup (s : State) :
    (s.nextChoice).vsup = s.vsup := rfl
@[simp] theorem nextChoice_pins (s : State) :
    (s.nextChoice).pins = s.pins := rfl
@[simp] theorem nextChoice_port (s : State) :
    (s.nextChoice).port = s.port := rfl
@[simp] theorem nextChoice_table (s : State) :
    (s.nextChoice).table = s.table := rfl
@[simp] theorem nextChoice_clock (s : State) :
    (s.nextChoice).clock = s.clock := rfl
@[simp] theorem nextChoice_chain (s : State) :
    (s.nextChoice).chain = s.chain := rfl
@[simp] theorem nextChoice_sense (s : State) :
    (s.nextChoice).sense = s.sense := rfl
@[simp] theorem nextChoice_seq (s : State) :
    (s.nextChoice).seq = s.seq := rfl
@[simp] theorem nextChoice_power (s : State) :
    (s.nextChoice).power = s.power := rfl
@[simp] theorem nextChoice_store (s : State) :
    (s.nextChoice).store = s.store := rfl
@[simp] theorem nextChoice_engine (s : State) :
    (s.nextChoice).engine = s.engine := rfl
@[simp] theorem nextChoice_attention (s : State) :
    (s.nextChoice).attention = s.attention := rfl
@[simp] theorem nextChoice_freeIndex (s : State) :
    (s.nextChoice).freeIndex = s.freeIndex + 1 := rfl
@[simp] theorem nextChoice_pending (s : State) :
    (s.nextChoice).pending = s.pending := rfl

/-! ### sendDown -/

@[simp] theorem sendDown_vsup (s : State) (m : List Byte) :
    (s.sendDown m).vsup = s.vsup := rfl
@[simp] theorem sendDown_pins (s : State) (m : List Byte) :
    (s.sendDown m).pins = s.pins := rfl
@[simp] theorem sendDown_port (s : State) (m : List Byte) :
    (s.sendDown m).port = s.port := rfl
@[simp] theorem sendDown_table (s : State) (m : List Byte) :
    (s.sendDown m).table = s.table := rfl
@[simp] theorem sendDown_clock (s : State) (m : List Byte) :
    (s.sendDown m).clock = s.clock := rfl
@[simp] theorem sendDown_chain (s : State) (m : List Byte) :
    (s.sendDown m).chain = { s.chain with sent := s.chain.sent ++ [m] } := rfl
@[simp] theorem sendDown_sense (s : State) (m : List Byte) :
    (s.sendDown m).sense = s.sense := rfl
@[simp] theorem sendDown_seq (s : State) (m : List Byte) :
    (s.sendDown m).seq = s.seq := rfl
@[simp] theorem sendDown_power (s : State) (m : List Byte) :
    (s.sendDown m).power = s.power := rfl
@[simp] theorem sendDown_store (s : State) (m : List Byte) :
    (s.sendDown m).store = s.store := rfl
@[simp] theorem sendDown_engine (s : State) (m : List Byte) :
    (s.sendDown m).engine = s.engine := rfl
@[simp] theorem sendDown_attention (s : State) (m : List Byte) :
    (s.sendDown m).attention = s.attention := rfl
@[simp] theorem sendDown_freeIndex (s : State) (m : List Byte) :
    (s.sendDown m).freeIndex = s.freeIndex := rfl
@[simp] theorem sendDown_pending (s : State) (m : List Byte) :
    (s.sendDown m).pending = s.pending := rfl

/-! ### setSlot -/

@[simp] theorem setSlot_vsup (s : State) (x : AnswerSlot) :
    (s.setSlot x).vsup = s.vsup := rfl
@[simp] theorem setSlot_pins (s : State) (x : AnswerSlot) :
    (s.setSlot x).pins = s.pins := rfl
@[simp] theorem setSlot_port (s : State) (x : AnswerSlot) :
    (s.setSlot x).port = { s.port with slot := x } := rfl
@[simp] theorem setSlot_table (s : State) (x : AnswerSlot) :
    (s.setSlot x).table = s.table := rfl
@[simp] theorem setSlot_clock (s : State) (x : AnswerSlot) :
    (s.setSlot x).clock = s.clock := rfl
@[simp] theorem setSlot_chain (s : State) (x : AnswerSlot) :
    (s.setSlot x).chain = s.chain := rfl
@[simp] theorem setSlot_sense (s : State) (x : AnswerSlot) :
    (s.setSlot x).sense = s.sense := rfl
@[simp] theorem setSlot_seq (s : State) (x : AnswerSlot) :
    (s.setSlot x).seq = s.seq := rfl
@[simp] theorem setSlot_power (s : State) (x : AnswerSlot) :
    (s.setSlot x).power = s.power := rfl
@[simp] theorem setSlot_store (s : State) (x : AnswerSlot) :
    (s.setSlot x).store = s.store := rfl
@[simp] theorem setSlot_engine (s : State) (x : AnswerSlot) :
    (s.setSlot x).engine = s.engine := rfl
@[simp] theorem setSlot_attention (s : State) (x : AnswerSlot) :
    (s.setSlot x).attention = s.attention := rfl
@[simp] theorem setSlot_freeIndex (s : State) (x : AnswerSlot) :
    (s.setSlot x).freeIndex = s.freeIndex := rfl
@[simp] theorem setSlot_pending (s : State) (x : AnswerSlot) :
    (s.setSlot x).pending = s.pending := rfl

/-! ### setWriteTx -/

@[simp] theorem setWriteTx_vsup (s : State) (x : WriteTx) :
    (s.setWriteTx x).vsup = s.vsup := rfl
@[simp] theorem setWriteTx_pins (s : State) (x : WriteTx) :
    (s.setWriteTx x).pins = s.pins := rfl
@[simp] theorem setWriteTx_port (s : State) (x : WriteTx) :
    (s.setWriteTx x).port = { s.port with writeTx := x } := rfl
@[simp] theorem setWriteTx_table (s : State) (x : WriteTx) :
    (s.setWriteTx x).table = s.table := rfl
@[simp] theorem setWriteTx_clock (s : State) (x : WriteTx) :
    (s.setWriteTx x).clock = s.clock := rfl
@[simp] theorem setWriteTx_chain (s : State) (x : WriteTx) :
    (s.setWriteTx x).chain = s.chain := rfl
@[simp] theorem setWriteTx_sense (s : State) (x : WriteTx) :
    (s.setWriteTx x).sense = s.sense := rfl
@[simp] theorem setWriteTx_seq (s : State) (x : WriteTx) :
    (s.setWriteTx x).seq = s.seq := rfl
@[simp] theorem setWriteTx_power (s : State) (x : WriteTx) :
    (s.setWriteTx x).power = s.power := rfl
@[simp] theorem setWriteTx_store (s : State) (x : WriteTx) :
    (s.setWriteTx x).store = s.store := rfl
@[simp] theorem setWriteTx_engine (s : State) (x : WriteTx) :
    (s.setWriteTx x).engine = s.engine := rfl
@[simp] theorem setWriteTx_attention (s : State) (x : WriteTx) :
    (s.setWriteTx x).attention = s.attention := rfl
@[simp] theorem setWriteTx_freeIndex (s : State) (x : WriteTx) :
    (s.setWriteTx x).freeIndex = s.freeIndex := rfl
@[simp] theorem setWriteTx_pending (s : State) (x : WriteTx) :
    (s.setWriteTx x).pending = s.pending := rfl

/-! ### shiftOut -/

@[simp] theorem shiftOut_vsup (s : State) (b : List Byte) :
    (s.shiftOut b).vsup = s.vsup := rfl
@[simp] theorem shiftOut_pins (s : State) (b : List Byte) :
    (s.shiftOut b).pins = s.pins := rfl
@[simp] theorem shiftOut_port (s : State) (b : List Byte) :
    (s.shiftOut b).port = { s.port with hsdo := b } := rfl
@[simp] theorem shiftOut_table (s : State) (b : List Byte) :
    (s.shiftOut b).table = s.table := rfl
@[simp] theorem shiftOut_clock (s : State) (b : List Byte) :
    (s.shiftOut b).clock = s.clock := rfl
@[simp] theorem shiftOut_chain (s : State) (b : List Byte) :
    (s.shiftOut b).chain = s.chain := rfl
@[simp] theorem shiftOut_sense (s : State) (b : List Byte) :
    (s.shiftOut b).sense = s.sense := rfl
@[simp] theorem shiftOut_seq (s : State) (b : List Byte) :
    (s.shiftOut b).seq = s.seq := rfl
@[simp] theorem shiftOut_power (s : State) (b : List Byte) :
    (s.shiftOut b).power = s.power := rfl
@[simp] theorem shiftOut_store (s : State) (b : List Byte) :
    (s.shiftOut b).store = s.store := rfl
@[simp] theorem shiftOut_engine (s : State) (b : List Byte) :
    (s.shiftOut b).engine = s.engine := rfl
@[simp] theorem shiftOut_attention (s : State) (b : List Byte) :
    (s.shiftOut b).attention = s.attention := rfl
@[simp] theorem shiftOut_freeIndex (s : State) (b : List Byte) :
    (s.shiftOut b).freeIndex = s.freeIndex := rfl
@[simp] theorem shiftOut_pending (s : State) (b : List Byte) :
    (s.shiftOut b).pending = s.pending := rfl

/-! ### setInFlight -/

@[simp] theorem setInFlight_vsup (s : State) (x : InFlight) :
    (s.setInFlight x).vsup = s.vsup := rfl
@[simp] theorem setInFlight_pins (s : State) (x : InFlight) :
    (s.setInFlight x).pins = s.pins := rfl
@[simp] theorem setInFlight_port (s : State) (x : InFlight) :
    (s.setInFlight x).port = s.port := rfl
@[simp] theorem setInFlight_table (s : State) (x : InFlight) :
    (s.setInFlight x).table = s.table := rfl
@[simp] theorem setInFlight_clock (s : State) (x : InFlight) :
    (s.setInFlight x).clock = s.clock := rfl
@[simp] theorem setInFlight_chain (s : State) (x : InFlight) :
    (s.setInFlight x).chain = s.chain := rfl
@[simp] theorem setInFlight_sense (s : State) (x : InFlight) :
    (s.setInFlight x).sense = s.sense := rfl
@[simp] theorem setInFlight_seq (s : State) (x : InFlight) :
    (s.setInFlight x).seq = s.seq := rfl
@[simp] theorem setInFlight_power (s : State) (x : InFlight) :
    (s.setInFlight x).power = s.power := rfl
@[simp] theorem setInFlight_store (s : State) (x : InFlight) :
    (s.setInFlight x).store = { s.store with inFlight := x } := rfl
@[simp] theorem setInFlight_engine (s : State) (x : InFlight) :
    (s.setInFlight x).engine = s.engine := rfl
@[simp] theorem setInFlight_attention (s : State) (x : InFlight) :
    (s.setInFlight x).attention = s.attention := rfl
@[simp] theorem setInFlight_freeIndex (s : State) (x : InFlight) :
    (s.setInFlight x).freeIndex = s.freeIndex := rfl
@[simp] theorem setInFlight_pending (s : State) (x : InFlight) :
    (s.setInFlight x).pending = s.pending := rfl

/-! ### setEntry -/

@[simp] theorem setEntry_vsup (s : State) (a : Nat) (e : RosterEntry) :
    (s.setEntry a e).vsup = s.vsup := rfl
@[simp] theorem setEntry_pins (s : State) (a : Nat) (e : RosterEntry) :
    (s.setEntry a e).pins = s.pins := rfl
@[simp] theorem setEntry_port (s : State) (a : Nat) (e : RosterEntry) :
    (s.setEntry a e).port = s.port := rfl
@[simp] theorem setEntry_table (s : State) (a : Nat) (e : RosterEntry) :
    (s.setEntry a e).table = s.table := rfl
@[simp] theorem setEntry_clock (s : State) (a : Nat) (e : RosterEntry) :
    (s.setEntry a e).clock = s.clock := rfl
@[simp] theorem setEntry_chain (s : State) (a : Nat) (e : RosterEntry) :
    (s.setEntry a e).chain = { s.chain with roster := s.chain.roster.setIfInBounds a e } := rfl
@[simp] theorem setEntry_sense (s : State) (a : Nat) (e : RosterEntry) :
    (s.setEntry a e).sense = s.sense := rfl
@[simp] theorem setEntry_seq (s : State) (a : Nat) (e : RosterEntry) :
    (s.setEntry a e).seq = s.seq := rfl
@[simp] theorem setEntry_power (s : State) (a : Nat) (e : RosterEntry) :
    (s.setEntry a e).power = s.power := rfl
@[simp] theorem setEntry_store (s : State) (a : Nat) (e : RosterEntry) :
    (s.setEntry a e).store = s.store := rfl
@[simp] theorem setEntry_engine (s : State) (a : Nat) (e : RosterEntry) :
    (s.setEntry a e).engine = s.engine := rfl
@[simp] theorem setEntry_attention (s : State) (a : Nat) (e : RosterEntry) :
    (s.setEntry a e).attention = s.attention := rfl
@[simp] theorem setEntry_freeIndex (s : State) (a : Nat) (e : RosterEntry) :
    (s.setEntry a e).freeIndex = s.freeIndex := rfl
@[simp] theorem setEntry_pending (s : State) (a : Nat) (e : RosterEntry) :
    (s.setEntry a e).pending = s.pending := rfl

/-! ### abandonRead -/

@[simp] theorem abandonRead_vsup (s : State) :
    (s.abandonRead).vsup = s.vsup := rfl
@[simp] theorem abandonRead_pins (s : State) :
    (s.abandonRead).pins = s.pins := rfl
@[simp] theorem abandonRead_port (s : State) :
    (s.abandonRead).port = s.port := rfl
@[simp] theorem abandonRead_table (s : State) :
    (s.abandonRead).table = s.table := rfl
@[simp] theorem abandonRead_clock (s : State) :
    (s.abandonRead).clock = s.clock := rfl
@[simp] theorem abandonRead_chain (s : State) :
    (s.abandonRead).chain = { s.chain with read := none } := rfl
@[simp] theorem abandonRead_sense (s : State) :
    (s.abandonRead).sense = s.sense := rfl
@[simp] theorem abandonRead_seq (s : State) :
    (s.abandonRead).seq = s.seq := rfl
@[simp] theorem abandonRead_power (s : State) :
    (s.abandonRead).power = s.power := rfl
@[simp] theorem abandonRead_store (s : State) :
    (s.abandonRead).store = s.store := rfl
@[simp] theorem abandonRead_engine (s : State) :
    (s.abandonRead).engine = s.engine := rfl
@[simp] theorem abandonRead_attention (s : State) :
    (s.abandonRead).attention = s.attention := rfl
@[simp] theorem abandonRead_freeIndex (s : State) :
    (s.abandonRead).freeIndex = s.freeIndex := rfl
@[simp] theorem abandonRead_pending (s : State) :
    (s.abandonRead).pending = s.pending := rfl

/-! ### dropCaptures -/

@[simp] theorem dropCaptures_vsup (s : State) :
    (s.dropCaptures).vsup = s.vsup := rfl
@[simp] theorem dropCaptures_pins (s : State) :
    (s.dropCaptures).pins = s.pins := rfl
@[simp] theorem dropCaptures_port (s : State) :
    (s.dropCaptures).port = s.port := rfl
@[simp] theorem dropCaptures_table (s : State) :
    (s.dropCaptures).table = s.table := rfl
@[simp] theorem dropCaptures_clock (s : State) :
    (s.dropCaptures).clock = s.clock := rfl
@[simp] theorem dropCaptures_chain (s : State) :
    (s.dropCaptures).chain = s.chain := rfl
@[simp] theorem dropCaptures_sense (s : State) :
    (s.dropCaptures).sense = { s.sense with shunt := none, packConv := none, busConv := none } := rfl
@[simp] theorem dropCaptures_seq (s : State) :
    (s.dropCaptures).seq = s.seq := rfl
@[simp] theorem dropCaptures_power (s : State) :
    (s.dropCaptures).power = s.power := rfl
@[simp] theorem dropCaptures_store (s : State) :
    (s.dropCaptures).store = s.store := rfl
@[simp] theorem dropCaptures_engine (s : State) :
    (s.dropCaptures).engine = s.engine := rfl
@[simp] theorem dropCaptures_attention (s : State) :
    (s.dropCaptures).attention = s.attention := rfl
@[simp] theorem dropCaptures_freeIndex (s : State) :
    (s.dropCaptures).freeIndex = s.freeIndex := rfl
@[simp] theorem dropCaptures_pending (s : State) :
    (s.dropCaptures).pending = s.pending := rfl

/-! ### setPhase -/

@[simp] theorem setPhase_vsup (s : State) (p : ClockPhase) :
    (s.setPhase p).vsup = s.vsup := rfl
@[simp] theorem setPhase_pins (s : State) (p : ClockPhase) :
    (s.setPhase p).pins = s.pins := rfl
@[simp] theorem setPhase_port (s : State) (p : ClockPhase) :
    (s.setPhase p).port = s.port := rfl
@[simp] theorem setPhase_table (s : State) (p : ClockPhase) :
    (s.setPhase p).table = s.table := rfl
@[simp] theorem setPhase_clock (s : State) (p : ClockPhase) :
    (s.setPhase p).clock = { s.clock with phase := p } := rfl
@[simp] theorem setPhase_chain (s : State) (p : ClockPhase) :
    (s.setPhase p).chain = s.chain := rfl
@[simp] theorem setPhase_sense (s : State) (p : ClockPhase) :
    (s.setPhase p).sense = s.sense := rfl
@[simp] theorem setPhase_seq (s : State) (p : ClockPhase) :
    (s.setPhase p).seq = s.seq := rfl
@[simp] theorem setPhase_power (s : State) (p : ClockPhase) :
    (s.setPhase p).power = s.power := rfl
@[simp] theorem setPhase_store (s : State) (p : ClockPhase) :
    (s.setPhase p).store = s.store := rfl
@[simp] theorem setPhase_engine (s : State) (p : ClockPhase) :
    (s.setPhase p).engine = s.engine := rfl
@[simp] theorem setPhase_attention (s : State) (p : ClockPhase) :
    (s.setPhase p).attention = s.attention := rfl
@[simp] theorem setPhase_freeIndex (s : State) (p : ClockPhase) :
    (s.setPhase p).freeIndex = s.freeIndex := rfl
@[simp] theorem setPhase_pending (s : State) (p : ClockPhase) :
    (s.setPhase p).pending = s.pending := rfl

/-! ### setTailInFlight -/

@[simp] theorem setTailInFlight_vsup (s : State) (b : Bool) :
    (s.setTailInFlight b).vsup = s.vsup := rfl
@[simp] theorem setTailInFlight_pins (s : State) (b : Bool) :
    (s.setTailInFlight b).pins = s.pins := rfl
@[simp] theorem setTailInFlight_port (s : State) (b : Bool) :
    (s.setTailInFlight b).port = s.port := rfl
@[simp] theorem setTailInFlight_table (s : State) (b : Bool) :
    (s.setTailInFlight b).table = s.table := rfl
@[simp] theorem setTailInFlight_clock (s : State) (b : Bool) :
    (s.setTailInFlight b).clock = { s.clock with tailInFlight := b } := rfl
@[simp] theorem setTailInFlight_chain (s : State) (b : Bool) :
    (s.setTailInFlight b).chain = s.chain := rfl
@[simp] theorem setTailInFlight_sense (s : State) (b : Bool) :
    (s.setTailInFlight b).sense = s.sense := rfl
@[simp] theorem setTailInFlight_seq (s : State) (b : Bool) :
    (s.setTailInFlight b).seq = s.seq := rfl
@[simp] theorem setTailInFlight_power (s : State) (b : Bool) :
    (s.setTailInFlight b).power = s.power := rfl
@[simp] theorem setTailInFlight_store (s : State) (b : Bool) :
    (s.setTailInFlight b).store = s.store := rfl
@[simp] theorem setTailInFlight_engine (s : State) (b : Bool) :
    (s.setTailInFlight b).engine = s.engine := rfl
@[simp] theorem setTailInFlight_attention (s : State) (b : Bool) :
    (s.setTailInFlight b).attention = s.attention := rfl
@[simp] theorem setTailInFlight_freeIndex (s : State) (b : Bool) :
    (s.setTailInFlight b).freeIndex = s.freeIndex := rfl
@[simp] theorem setTailInFlight_pending (s : State) (b : Bool) :
    (s.setTailInFlight b).pending = s.pending := rfl

/-! ### popTail -/

@[simp] theorem popTail_vsup (s : State) :
    (s.popTail).vsup = s.vsup := rfl
@[simp] theorem popTail_pins (s : State) :
    (s.popTail).pins = s.pins := rfl
@[simp] theorem popTail_port (s : State) :
    (s.popTail).port = s.port := rfl
@[simp] theorem popTail_table (s : State) :
    (s.popTail).table = s.table := rfl
@[simp] theorem popTail_clock (s : State) :
    (s.popTail).clock = { s.clock with tail := s.clock.tail.tail, tailInFlight := false } := rfl
@[simp] theorem popTail_chain (s : State) :
    (s.popTail).chain = s.chain := rfl
@[simp] theorem popTail_sense (s : State) :
    (s.popTail).sense = s.sense := rfl
@[simp] theorem popTail_seq (s : State) :
    (s.popTail).seq = s.seq := rfl
@[simp] theorem popTail_power (s : State) :
    (s.popTail).power = s.power := rfl
@[simp] theorem popTail_store (s : State) :
    (s.popTail).store = s.store := rfl
@[simp] theorem popTail_engine (s : State) :
    (s.popTail).engine = s.engine := rfl
@[simp] theorem popTail_attention (s : State) :
    (s.popTail).attention = s.attention := rfl
@[simp] theorem popTail_freeIndex (s : State) :
    (s.popTail).freeIndex = s.freeIndex := rfl
@[simp] theorem popTail_pending (s : State) :
    (s.popTail).pending = s.pending := rfl

/-! ### setPower -/

@[simp] theorem setPower_vsup (s : State) (p : PowerState) :
    (s.setPower p).vsup = s.vsup := rfl
@[simp] theorem setPower_pins (s : State) (p : PowerState) :
    (s.setPower p).pins = s.pins := rfl
@[simp] theorem setPower_port (s : State) (p : PowerState) :
    (s.setPower p).port = s.port := rfl
@[simp] theorem setPower_table (s : State) (p : PowerState) :
    (s.setPower p).table = s.table := rfl
@[simp] theorem setPower_clock (s : State) (p : PowerState) :
    (s.setPower p).clock = s.clock := rfl
@[simp] theorem setPower_chain (s : State) (p : PowerState) :
    (s.setPower p).chain = s.chain := rfl
@[simp] theorem setPower_sense (s : State) (p : PowerState) :
    (s.setPower p).sense = s.sense := rfl
@[simp] theorem setPower_seq (s : State) (p : PowerState) :
    (s.setPower p).seq = s.seq := rfl
@[simp] theorem setPower_power (s : State) (p : PowerState) :
    (s.setPower p).power = { s.power with state := p } := rfl
@[simp] theorem setPower_store (s : State) (p : PowerState) :
    (s.setPower p).store = s.store := rfl
@[simp] theorem setPower_engine (s : State) (p : PowerState) :
    (s.setPower p).engine = s.engine := rfl
@[simp] theorem setPower_attention (s : State) (p : PowerState) :
    (s.setPower p).attention = s.attention := rfl
@[simp] theorem setPower_freeIndex (s : State) (p : PowerState) :
    (s.setPower p).freeIndex = s.freeIndex := rfl
@[simp] theorem setPower_pending (s : State) (p : PowerState) :
    (s.setPower p).pending = s.pending := rfl

/-! ### writeRecord -/

@[simp] theorem writeRecord_vsup (s : State) (r : WakeRecord) :
    (s.writeRecord r).vsup = s.vsup := rfl
@[simp] theorem writeRecord_pins (s : State) (r : WakeRecord) :
    (s.writeRecord r).pins = s.pins := rfl
@[simp] theorem writeRecord_port (s : State) (r : WakeRecord) :
    (s.writeRecord r).port = s.port := rfl
@[simp] theorem writeRecord_table (s : State) (r : WakeRecord) :
    (s.writeRecord r).table = s.table := rfl
@[simp] theorem writeRecord_clock (s : State) (r : WakeRecord) :
    (s.writeRecord r).clock = s.clock := rfl
@[simp] theorem writeRecord_chain (s : State) (r : WakeRecord) :
    (s.writeRecord r).chain = s.chain := rfl
@[simp] theorem writeRecord_sense (s : State) (r : WakeRecord) :
    (s.writeRecord r).sense = s.sense := rfl
@[simp] theorem writeRecord_seq (s : State) (r : WakeRecord) :
    (s.writeRecord r).seq = s.seq := rfl
@[simp] theorem writeRecord_power (s : State) (r : WakeRecord) :
    (s.writeRecord r).power = { s.power with record := r, wakeSet := .none, firstPoint := none } := rfl
@[simp] theorem writeRecord_store (s : State) (r : WakeRecord) :
    (s.writeRecord r).store = s.store := rfl
@[simp] theorem writeRecord_engine (s : State) (r : WakeRecord) :
    (s.writeRecord r).engine = s.engine := rfl
@[simp] theorem writeRecord_attention (s : State) (r : WakeRecord) :
    (s.writeRecord r).attention = s.attention := rfl
@[simp] theorem writeRecord_freeIndex (s : State) (r : WakeRecord) :
    (s.writeRecord r).freeIndex = s.freeIndex := rfl
@[simp] theorem writeRecord_pending (s : State) (r : WakeRecord) :
    (s.writeRecord r).pending = s.pending := rfl

/-! ### setMask -/

@[simp] theorem setMask_vsup (s : State) (m : Causes) :
    (s.setMask m).vsup = s.vsup := rfl
@[simp] theorem setMask_pins (s : State) (m : Causes) :
    (s.setMask m).pins = s.pins := rfl
@[simp] theorem setMask_port (s : State) (m : Causes) :
    (s.setMask m).port = s.port := rfl
@[simp] theorem setMask_table (s : State) (m : Causes) :
    (s.setMask m).table = s.table := rfl
@[simp] theorem setMask_clock (s : State) (m : Causes) :
    (s.setMask m).clock = s.clock := rfl
@[simp] theorem setMask_chain (s : State) (m : Causes) :
    (s.setMask m).chain = s.chain := rfl
@[simp] theorem setMask_sense (s : State) (m : Causes) :
    (s.setMask m).sense = s.sense := rfl
@[simp] theorem setMask_seq (s : State) (m : Causes) :
    (s.setMask m).seq = s.seq := rfl
@[simp] theorem setMask_power (s : State) (m : Causes) :
    (s.setMask m).power = s.power := rfl
@[simp] theorem setMask_store (s : State) (m : Causes) :
    (s.setMask m).store = s.store := rfl
@[simp] theorem setMask_engine (s : State) (m : Causes) :
    (s.setMask m).engine = s.engine := rfl
@[simp] theorem setMask_attention (s : State) (m : Causes) :
    (s.setMask m).attention = { s.attention with mask := m } := rfl
@[simp] theorem setMask_freeIndex (s : State) (m : Causes) :
    (s.setMask m).freeIndex = s.freeIndex := rfl
@[simp] theorem setMask_pending (s : State) (m : Causes) :
    (s.setMask m).pending = s.pending := rfl

/-! ### dropNotice -/

@[simp] theorem dropNotice_vsup (s : State) :
    (s.dropNotice).vsup = s.vsup := rfl
@[simp] theorem dropNotice_pins (s : State) :
    (s.dropNotice).pins = s.pins := rfl
@[simp] theorem dropNotice_port (s : State) :
    (s.dropNotice).port = s.port := rfl
@[simp] theorem dropNotice_table (s : State) :
    (s.dropNotice).table = { s.table with notices := s.table.notices.tail } := rfl
@[simp] theorem dropNotice_clock (s : State) :
    (s.dropNotice).clock = s.clock := rfl
@[simp] theorem dropNotice_chain (s : State) :
    (s.dropNotice).chain = s.chain := rfl
@[simp] theorem dropNotice_sense (s : State) :
    (s.dropNotice).sense = s.sense := rfl
@[simp] theorem dropNotice_seq (s : State) :
    (s.dropNotice).seq = s.seq := rfl
@[simp] theorem dropNotice_power (s : State) :
    (s.dropNotice).power = s.power := rfl
@[simp] theorem dropNotice_store (s : State) :
    (s.dropNotice).store = s.store := rfl
@[simp] theorem dropNotice_engine (s : State) :
    (s.dropNotice).engine = s.engine := rfl
@[simp] theorem dropNotice_attention (s : State) :
    (s.dropNotice).attention = s.attention := rfl
@[simp] theorem dropNotice_freeIndex (s : State) :
    (s.dropNotice).freeIndex = s.freeIndex := rfl
@[simp] theorem dropNotice_pending (s : State) :
    (s.dropNotice).pending = s.pending := rfl

end Sys2Proof.Laws
end

