-- ==== Sys2Proof/Laws/Points.lean ====
section
/-! SUPPORT. What judgement can do, said once: the operations of chapter 2 write point records, the sets, the notices, the
cause POINTS and the wake notice, and nothing else; where they act, and what they leave of every other point. -/

namespace Sys2Proof.Laws

open Sys2Proof.Machine

/-! ### Sets of ids -/

theorem mem_insertId (x y : Nat) (ids : List Nat) : y ∈ insertId x ids ↔ y = x ∨ y ∈ ids := by
  induction ids with
  | nil => simp [insertId]
  | cons a rest ih =>
    unfold insertId
    split
    · simp
    · split
      · rename_i h; subst h; simp
      · simp only [List.mem_cons, ih]
        constructor
        · rintro (h | h | h) <;> simp [h]
        · rintro (h | h | h) <;> simp [h]

theorem mem_removeId (x y : Nat) (ids : List Nat) : y ∈ removeId x ids ↔ y ∈ ids ∧ y ≠ x := by
  simp [removeId]

theorem insertId_sorted (x : Nat) (ids : List Nat) (h : ids.Pairwise (· < ·)) :
    (insertId x ids).Pairwise (· < ·) := by
  induction ids with
  | nil => simp [insertId]
  | cons a rest ih =>
    obtain ⟨ha, hr⟩ := List.pairwise_cons.mp h
    unfold insertId
    split
    · rename_i hx
      refine List.pairwise_cons.mpr ⟨?_, h⟩
      intro b hb
      rcases List.mem_cons.mp hb with rfl | hb
      · exact hx
      · exact Nat.lt_trans hx (ha b hb)
    · split
      · exact h
      · rename_i h1 h2
        refine List.pairwise_cons.mpr ⟨?_, ih hr⟩
        intro b hb
        rcases (mem_insertId x b rest).mp hb with rfl | hb
        · omega
        · exact ha b hb

theorem removeId_sorted (x : Nat) (ids : List Nat) (h : ids.Pairwise (· < ·)) : (removeId x ids).Pairwise (· < ·) :=
  List.Pairwise.filter _ h

theorem insertId_ne_nil (x : Nat) (ids : List Nat) : insertId x ids ≠ [] := by
  intro h
  have := (mem_insertId x x ids).mpr (Or.inl rfl)
  simp [h] at this

theorem mem_tableIds (id : Nat) : id ∈ tableIds ↔ id < 384 := by
  unfold tableIds
  simp

theorem tableIds_nodup : tableIds.Nodup := by
  unfold tableIds
  exact List.nodup_range

theorem tableIds_sorted : tableIds.Pairwise (· < ·) := by
  unfold tableIds
  exact List.pairwise_lt_range

theorem mem_idsWhere (p : Nat → Bool) (id : Nat) : id ∈ idsWhere p ↔ id < 384 ∧ p id = true := by
  simp [idsWhere, mem_tableIds]

theorem idsWhere_nodup (p : Nat → Bool) : (idsWhere p).Nodup := List.filter_sublist.nodup tableIds_nodup

theorem idsWhere_sorted (p : Nat → Bool) : (idsWhere p).Pairwise (· < ·) := List.Pairwise.filter _ tableIds_sorted

/-! ### Point records -/

/-- An id of the table that is not VACANT is at most 383. -/
theorem lt_of_point_ne_vacant (s : State) (id : Nat) (h : s.point id ≠ .vacant) : id < 384 := by
  apply Classical.byContradiction
  intro hn
  apply h
  simp [State.point, hn]

theorem point_setPoint (s : State) (id x : Nat) (p : Point) :
    (s.setPoint id p).point x = if x = id ∧ id < 384 then p else s.point x := by
  simp only [State.point, State.setPoint]
  by_cases hx : x < 384
  · by_cases h : id = x
    · subst h; simp [hx]
    · rw [if_neg (by omega)]; simp [hx, h]
  · rw [if_neg (by omega)]; simp [hx]

theorem point_of_table (s t : State) (h : t.table.points = s.table.points) (id : Nat) : t.point id = s.point id := by
  simp [State.point, h]

theorem refreshInhibit_points (s : State) (id : Nat) : (s.refreshInhibit id).table.points = s.table.points := by
  unfold State.refreshInhibit State.sendNotice; split <;> (try split) <;> rfl

theorem conditionChanged_points (s : State) (id : Nat) (d : Definition) (c : Condition) :
    (s.conditionChanged id d c).table.points = s.table.points := by
  have h1 : ∀ u : State, (u.noticeTrip id d c).table.points = u.table.points := by
    intro u; unfold State.noticeTrip; split <;> rfl
  have h2 : ∀ u : State, (u.report id d).table.points = u.table.points := by
    intro u; unfold State.report; split <;> rfl
  have h3 : ∀ u : State, (u.noticeWake id d c).table.points = u.table.points := by
    intro u; unfold State.noticeWake; split <;> rfl
  unfold State.conditionChanged
  rw [h3, h2, h1, refreshInhibit_points]

theorem setLive_points (s : State) (id : Nat) (d : Definition) (l l' : Live) (p : Option PendingPart) :
    (s.setLive id d l l' p).table.points = (s.setPoint id (.live d l' p)).table.points := by
  unfold State.setLive
  split
  · rfl
  · rw [conditionChanged_points]

theorem handReference_points (s : State) (id : Nat) (v : Int) : (s.handReference id v).table.points = s.table.points := by
  unfold State.handReference
  split
  · split <;> rfl
  · rfl

/-- R26: what a sample makes of a record. -/
def sampled (n : Word32) (v : Int) : Point → Point
  | .live d l p => .live d (l.judged d v n) p
  | .vacant => .vacant
  | .enlisting d => .enlisting d

/-- R30: what a missed sample makes of a record. -/
def missed : Point → Point
  | .live d l p => .live d (l.afterMiss d) p
  | .vacant => .vacant
  | .enlisting d => .enlisting d

theorem point_sample (s : State) (id x : Nat) (v : Int) :
    (s.sample id v).point x = if x = id then sampled s.clock.number v (s.point id) else s.point x := by
  unfold State.sample
  cases h : s.point id with
  | vacant => by_cases hx : x = id <;> simp [hx, sampled, h]
  | enlisting d => by_cases hx : x = id <;> simp [hx, sampled, h]
  | live d l p =>
    have hlt : id < 384 := lt_of_point_ne_vacant s id (by simp [h])
    simp only
    rw [point_of_table _ _ (handReference_points _ _ _), point_of_table _ _ (setLive_points _ _ _ _ _ _), point_setPoint]
    simp [hlt, sampled]

theorem point_miss (s : State) (id x : Nat) :
    (s.miss id).point x = if x = id then missed (s.point id) else s.point x := by
  unfold State.miss
  cases h : s.point id with
  | vacant => by_cases hx : x = id <;> simp [hx, missed, h]
  | enlisting d => by_cases hx : x = id <;> simp [hx, missed, h]
  | live d l p =>
    have hlt : id < 384 := lt_of_point_ne_vacant s id (by simp [h])
    simp only
    rw [point_of_table _ _ (setLive_points _ _ _ _ _ _), point_setPoint]
    simp [hlt, missed]

/-! ### What judgement leaves alone -/

/-- `t` differs from `s` by judgement alone. -/
structure OnlyJudges (s t : State) : Prop where
  vsup : t.vsup = s.vsup
  pins : t.pins = s.pins
  port : t.port = s.port
  clock : t.clock = s.clock
  chain : t.chain = s.chain
  sense : t.sense = s.sense
  seq : t.seq = s.seq
  store : t.store = s.store
  engine : t.engine = s.engine
  freeIndex : t.freeIndex = s.freeIndex
  pending : t.pending = s.pending
  powerState : t.power.state = s.power.state
  record : t.power.record = s.power.record
  sleepFrame : t.power.sleepFrame = s.power.sleepFrame
  sleepTimer : t.power.sleepTimer = s.power.sleepTimer
  entryFrame : t.power.entryFrame = s.power.entryFrame
  quiet : t.power.quiet = s.power.quiet
  reset : t.power.reset = s.power.reset
  /-- The wake set and the first wake point change in a sleep frame alone (R47). -/
  awake : s.power.state ≠ .sleepFrame → t.power = s.power
  /-- Of the attention unit only the cause POINTS changes. -/
  attention : t.attention = { s.attention with set := { s.attention.set with points := t.attention.set.points } }
  definitions : ∀ id, (t.point id).liveDefinition? = (s.point id).liveDefinition?
  vacant : ∀ id, t.point id = .vacant ↔ s.point id = .vacant

theorem OnlyJudges.refl (s : State) : OnlyJudges s s :=
  ⟨rfl, rfl, rfl, rfl, rfl, rfl, rfl, rfl, rfl, rfl, rfl, rfl, rfl, rfl, rfl, rfl, rfl, rfl, fun _ => rfl, rfl,
    fun _ => rfl, fun _ => Iff.rfl⟩

theorem OnlyJudges.trans {s t u : State} (h : OnlyJudges s t) (k : OnlyJudges t u) : OnlyJudges s u where
  vsup := k.vsup.trans h.vsup
  pins := k.pins.trans h.pins
  port := k.port.trans h.port
  clock := k.clock.trans h.clock
  chain := k.chain.trans h.chain
  sense := k.sense.trans h.sense
  seq := k.seq.trans h.seq
  store := k.store.trans h.store
  engine := k.engine.trans h.engine
  freeIndex := k.freeIndex.trans h.freeIndex
  pending := k.pending.trans h.pending
  powerState := k.powerState.trans h.powerState
  record := k.record.trans h.record
  sleepFrame := k.sleepFrame.trans h.sleepFrame
  sleepTimer := k.sleepTimer.trans h.sleepTimer
  entryFrame := k.entryFrame.trans h.entryFrame
  quiet := k.quiet.trans h.quiet
  reset := k.reset.trans h.reset
  awake := fun hs => (k.awake (by rw [h.powerState]; exact hs)).trans (h.awake hs)
  attention := by rw [k.attention, h.attention]
  definitions := fun id => (k.definitions id).trans (h.definitions id)
  vacant := fun id => (k.vacant id).trans (h.vacant id)

/-- A change of the sets, the notices, POINTS and, in a sleep frame, the wake set leaves the records alone. -/
theorem onlyJudges_of_points (s t : State) (hp : t.table.points = s.table.points)
    (h : t = { s with table := t.table, attention := t.attention, power := t.power })
    (hw : t.power = { s.power with wakeSet := t.power.wakeSet, firstPoint := t.power.firstPoint })
    (ha : s.power.state ≠ .sleepFrame → t.power = s.power)
    (hc : t.attention = { s.attention with set := { s.attention.set with points := t.attention.set.points } }) :
    OnlyJudges s t := by
  have hq : ∀ id, t.point id = s.point id := point_of_table s t hp
  constructor
  all_goals first
    | exact ha
    | exact hc
    | (intro id; rw [hq])
    | (rw [hw])
    | (rw [h])

theorem refreshInhibit_judges (s : State) (id : Nat) : OnlyJudges s (s.refreshInhibit id) := by
  apply onlyJudges_of_points _ _ (refreshInhibit_points s id) <;>
    (unfold State.refreshInhibit State.sendNotice; split <;> (try split) <;> first | rfl | (intro _; rfl))

theorem addChanged_judges (s : State) (id : Nat) : OnlyJudges s (s.addChanged id) := by
  exact onlyJudges_of_points s (s.addChanged id) rfl rfl rfl (fun _ => rfl) rfl

theorem conditionChanged_judges (s : State) (id : Nat) (d : Definition) (c : Condition) :
    OnlyJudges s (s.conditionChanged id d c) := by
  unfold State.conditionChanged
  refine (refreshInhibit_judges s id).trans ?_
  generalize s.refreshInhibit id = s1
  have h1 : OnlyJudges s1 (s1.noticeTrip id d c) := by
    unfold State.noticeTrip
    split
    · exact onlyJudges_of_points _ _ rfl rfl rfl (fun _ => rfl) rfl
    · exact .refl _
  refine h1.trans ?_
  generalize s1.noticeTrip id d c = s2
  have h2 : OnlyJudges s2 (s2.report id d) := by
    unfold State.report
    split
    · exact addChanged_judges _ _
    · exact .refl _
  refine h2.trans ?_
  generalize s2.report id d = s3
  unfold State.noticeWake
  split
  · rename_i h
    have hs : s3.power.state = .sleepFrame := by
      simp only [Bool.and_eq_true, beq_iff_eq] at h; exact h.1.1.1
    exact onlyJudges_of_points _ _ rfl rfl rfl (fun hn => absurd hs hn) rfl
  · exact .refl _

/-- A LIVE record with a new live part. -/
theorem setPoint_live_judges (s : State) (id : Nat) (d : Definition) (l l' : Live) (p : Option PendingPart)
    (h : s.point id = .live d l p) : OnlyJudges s (s.setPoint id (.live d l' p)) where
  vsup := rfl
  pins := rfl
  port := rfl
  clock := rfl
  chain := rfl
  sense := rfl
  seq := rfl
  store := rfl
  engine := rfl
  freeIndex := rfl
  pending := rfl
  powerState := rfl
  record := rfl
  sleepFrame := rfl
  sleepTimer := rfl
  entryFrame := rfl
  quiet := rfl
  reset := rfl
  awake := fun _ => rfl
  attention := rfl
  definitions := by
    intro x
    rw [point_setPoint]
    split
    · rename_i hx; rw [hx.1, h]; rfl
    · rfl
  vacant := by
    intro x
    rw [point_setPoint]
    split
    · rename_i hx; rw [hx.1, h]; simp
    · rfl

theorem setLive_judges (s : State) (id : Nat) (d : Definition) (l l' : Live) (p : Option PendingPart)
    (h : s.point id = .live d l p) : OnlyJudges s (s.setLive id d l l' p) := by
  unfold State.setLive
  split
  · exact setPoint_live_judges s id d l l' p h
  · exact (setPoint_live_judges s id d l l' p h).trans (conditionChanged_judges _ _ _ _)

theorem handReference_judges (s : State) (id : Nat) (v : Int) : OnlyJudges s (s.handReference id v) := by
  unfold State.handReference
  split
  · split
    · exact onlyJudges_of_points _ _ rfl rfl rfl (fun _ => rfl) rfl
    · exact .refl _
  · exact .refl _

theorem sample_judges (s : State) (id : Nat) (v : Int) : OnlyJudges s (s.sample id v) := by
  unfold State.sample
  cases h : s.point id with
  | vacant => exact .refl _
  | enlisting d => exact .refl _
  | live d l p => exact (setLive_judges s id d l _ p h).trans (handReference_judges _ _ _)

theorem miss_judges (s : State) (id : Nat) : OnlyJudges s (s.miss id) := by
  unfold State.miss
  cases h : s.point id with
  | vacant => exact .refl _
  | enlisting d => exact .refl _
  | live d l p => exact setLive_judges s id d l _ p h

theorem foldl_judges {α : Type} (f : State → α → State) (h : ∀ s x, OnlyJudges s (f s x)) (xs : List α) (s : State) :
    OnlyJudges s (xs.foldl f s) := by
  induction xs generalizing s with
  | nil => exact .refl _
  | cons x rest ih => exact (h s x).trans (ih _)

theorem missAll_judges (s : State) (ids : List Nat) : OnlyJudges s (s.missAll ids) :=
  foldl_judges _ (fun t id => miss_judges t id) ids s

theorem sampleAll_judges (s : State) (ids : List Nat) (v : Int) : OnlyJudges s (s.sampleAll ids v) :=
  foldl_judges _ (fun t id => sample_judges t id v) ids s

theorem deliver_judges (s : State) (ids : List Nat) (v : Option Int) : OnlyJudges s (s.deliver ids v) := by
  cases v with
  | none => exact missAll_judges s ids
  | some x => exact sampleAll_judges s ids x

theorem judgeAggregate_judges (s : State) (id : Nat) : OnlyJudges s (s.judgeAggregate id) := by
  unfold State.judgeAggregate
  split
  · split
    · exact sample_judges _ _ _
    · exact miss_judges _ _
  · exact .refl _

theorem judgeAggregates_judges (s : State) (ids : List Nat) : OnlyJudges s (s.judgeAggregates ids) :=
  foldl_judges _ (fun t id => judgeAggregate_judges t id) ids s

theorem completeSpot_judges (s : State) (id : Nat) (v : Option Int) : OnlyJudges s (s.completeSpot id v) := by
  unfold State.completeSpot
  cases h : s.point id with
  | vacant => exact .refl _
  | enlisting d => exact .refl _
  | live d l p => exact (setPoint_live_judges s id d l _ p h).trans (addChanged_judges _ _)

theorem deliverChannel_judges (s : State) (b : Block) (words : List Nat) (id : Nat) :
    OnlyJudges s (s.deliverChannel b words id) := by
  unfold State.deliverChannel
  split
  · exact sample_judges _ _ _
  · exact miss_judges _ _

theorem giveRound_judges (s : State) (b : Block) (words : Option (List Nat)) (ids : List Nat) :
    OnlyJudges s (s.giveRound b words ids) := by
  unfold State.giveRound
  split
  · exact foldl_judges _ (fun t id => deliverChannel_judges t b _ id) ids s
  · exact missAll_judges s ids

theorem refreshAllInhibits_judges (s : State) : OnlyJudges s s.refreshAllInhibits :=
  foldl_judges _ (fun t id => refreshInhibit_judges t id) _ s

/-! ### Where judgement acts -/

/-- An operation at one id, folded over ids without repetition, acts once at each of them and nowhere else. -/
theorem point_foldl (f : State → Nat → State) (g : State → Nat → Point → Point) (Inv : State → Prop)
    (hf : ∀ s id x, Inv s → (f s id).point x = if x = id then g s id (s.point id) else s.point x)
    (hi : ∀ s id, Inv s → Inv (f s id)) (hg : ∀ s id x p, Inv s → g (f s id) x p = g s x p)
    (ids : List Nat) (s : State) (h : Inv s) (hn : ids.Nodup) (x : Nat) :
    (ids.foldl f s).point x = if x ∈ ids then g s x (s.point x) else s.point x := by
  induction ids generalizing s with
  | nil => simp
  | cons a rest ih =>
    obtain ⟨ha, hr⟩ := List.nodup_cons.mp hn
    simp only [List.foldl_cons, List.mem_cons]
    rw [ih _ (hi s a h) hr, hg _ _ _ _ h, hf _ _ _ h]
    by_cases hx : x = a
    · subst hx; simp [ha]
    · simp [hx]

theorem point_missAll (s : State) (ids : List Nat) (hn : ids.Nodup) (x : Nat) :
    (s.missAll ids).point x = if x ∈ ids then missed (s.point x) else s.point x :=
  point_foldl _ (fun _ _ p => missed p) (fun _ => True) (fun s id x _ => point_miss s id x) (fun _ _ _ => trivial)
    (fun _ _ _ _ _ => rfl) ids s trivial hn x

theorem point_sampleAll (s : State) (ids : List Nat) (v : Int) (hn : ids.Nodup) (x : Nat) :
    (s.sampleAll ids v).point x = if x ∈ ids then sampled s.clock.number v (s.point x) else s.point x :=
  point_foldl _ (fun s _ p => sampled s.clock.number v p) (fun _ => True) (fun s id x _ => point_sample s id x v)
    (fun _ _ _ => trivial) (fun s id x p _ => by simp only [(sample_judges s id v).clock]) ids s trivial hn x

/-- R90, R92: what a delivery makes of the records. -/
theorem point_deliver (s : State) (ids : List Nat) (v : Option Int) (hn : ids.Nodup) (x : Nat) :
    (s.deliver ids v).point x =
      if x ∈ ids then
        (match v with
          | some y => sampled s.clock.number y (s.point x)
          | none => missed (s.point x))
      else s.point x := by
  cases v with
  | none => exact point_missAll s ids hn x
  | some y => exact point_sampleAll s ids y hn x

/-! ### The consequences of a change of condition (R36) -/

/-- Everything that a change of condition leads to (R36): the two sets, the notices, POINTS and the wake cause. -/
structure ChangeLeadsTo (id : Nat) (d : Definition) (entered : Condition) (belongs : Bool) (s t : State) : Prop where
  points : t.table.points = s.table.points
  member : id ∈ t.table.inhibitSet ↔ belongs = true
  others : ∀ x, x ≠ id → (x ∈ t.table.inhibitSet ↔ x ∈ s.table.inhibitSet)
  notices : t.table.notices = s.table.notices ++
    (if belongs && !s.table.inhibitSet.contains id then [.inhibit id] else []) ++
    (if d.actions.opens && entered == .tripped then [.trip id] else [])
  changed : ∀ x, x ∈ t.table.changedSet ↔ x ∈ s.table.changedSet ∨ (x = id ∧ d.actions.report = true)
  attention : t.attention = { s.attention with set :=
    { s.attention.set with points := s.attention.set.points || d.actions.report } }
  wakes : (s.power.state == .sleepFrame && d.sleepDivider.isSome && d.actions.wakes &&
      (entered == .warn || entered == .tripped || entered == .stale)) = true →
    t.power = { s.power with
      wakeSet := { s.power.wakeSet with point := true }
      firstPoint := if s.power.firstPoint.isSome then s.power.firstPoint else some id }
  sleeps : (s.power.state == .sleepFrame && d.sleepDivider.isSome && d.actions.wakes &&
      (entered == .warn || entered == .tripped || entered == .stale)) = false → t.power = s.power

theorem conditionChanged_leads (s : State) (id : Nat) (d : Definition) (entered : Condition) :
    ChangeLeadsTo id d entered (s.point id).inhibits s (s.conditionChanged id d entered) := by
  have h1 : ∀ u : State, (u.noticeWake id d entered).table = u.table := by
    intro u; unfold State.noticeWake; split <;> rfl
  have h1a : ∀ u : State, (u.noticeWake id d entered).attention = u.attention := by
    intro u; unfold State.noticeWake; split <;> rfl
  have h2 : ∀ u : State, (u.report id d).power = u.power := by
    intro u; unfold State.report; split <;> rfl
  have h3 : ∀ u : State, (u.noticeTrip id d entered).power = u.power := by
    intro u; unfold State.noticeTrip; split <;> rfl
  have h4 : (s.refreshInhibit id).power = s.power := by
    unfold State.refreshInhibit; split <;> (try split) <;> rfl
  have hr : ∀ u : State, (u.report id d).table =
      { u.table with changedSet := if d.actions.report then insertId id u.table.changedSet else u.table.changedSet } := by
    intro u; unfold State.report; split <;> rfl
  have hra : ∀ u : State, (u.report id d).attention = { u.attention with set :=
      { u.attention.set with points := u.attention.set.points || d.actions.report } } := by
    intro u; unfold State.report; split
    · rename_i h; rw [h, Bool.or_true]; rfl
    · rename_i h; rw [Bool.not_eq_true] at h; rw [h, Bool.or_false]
  have ht : ∀ u : State, (u.noticeTrip id d entered).table =
      { u.table with notices := u.table.notices ++ (if d.actions.opens && entered == .tripped then [.trip id] else []) } := by
    intro u; unfold State.noticeTrip; split
    · rfl
    · rw [List.append_nil]
  have hta : ∀ u : State, (u.noticeTrip id d entered).attention = u.attention := by
    intro u; unfold State.noticeTrip; split <;> rfl
  have hia : (s.refreshInhibit id).attention = s.attention := by
    unfold State.refreshInhibit; split <;> (try split) <;> rfl
  have hi : (s.refreshInhibit id).table =
      { s.table with
        inhibitSet := (s.refreshInhibit id).table.inhibitSet
        notices := s.table.notices ++
          (if (s.point id).inhibits && !s.table.inhibitSet.contains id then [.inhibit id] else []) } := by
    unfold State.refreshInhibit
    split
    · rename_i h1
      split
      · rename_i h2; rw [h1, h2]; simp
      · rename_i h2; rw [h1]; rw [Bool.not_eq_true] at h2; rw [h2]; simp [State.sendNotice]
    · rename_i h1; rw [Bool.not_eq_true] at h1; rw [h1]; simp
  have hm : ∀ x, x ∈ (s.refreshInhibit id).table.inhibitSet ↔ (if x = id then (s.point id).inhibits = true else x ∈ s.table.inhibitSet) := by
    intro x
    unfold State.refreshInhibit
    split
    · rename_i h1
      split
      · rename_i h2
        by_cases hx : x = id
        · subst hx; simp [h1]; simpa using h2
        · simp [hx]
      · show x ∈ insertId id _ ↔ _
        rw [mem_insertId]
        by_cases hx : x = id <;> simp [hx, h1]
    · rename_i h1
      show x ∈ removeId id _ ↔ _
      rw [mem_removeId]
      by_cases hx : x = id <;> simp [hx, h1]
  have hT : (s.conditionChanged id d entered).table =
      { (s.refreshInhibit id).table with
        notices := (s.refreshInhibit id).table.notices ++ (if d.actions.opens && entered == .tripped then [.trip id] else [])
        changedSet := if d.actions.report then insertId id (s.refreshInhibit id).table.changedSet else (s.refreshInhibit id).table.changedSet } := by
    unfold State.conditionChanged; rw [h1, hr, ht]
  have hA : (s.conditionChanged id d entered).attention = { s.attention with set :=
      { s.attention.set with points := s.attention.set.points || d.actions.report } } := by
    unfold State.conditionChanged; rw [h1a, hra, hta, hia]
  have hP : ((((s.refreshInhibit id).noticeTrip id d entered).report id d)).power = s.power := by rw [h2, h3, h4]
  refine ⟨?_, ?_, ?_, ?_, ?_, hA, ?_, ?_⟩
  · rw [hT, hi]
  · rw [hT]; show id ∈ (s.refreshInhibit id).table.inhibitSet ↔ _; rw [hm]; simp
  · intro x hx; rw [hT]; show x ∈ (s.refreshInhibit id).table.inhibitSet ↔ _; rw [hm]; simp [hx]
  · rw [hT]; show (s.refreshInhibit id).table.notices ++ _ = _; rw [hi]
  · intro x; rw [hT]
    have hc : (s.refreshInhibit id).table.changedSet = s.table.changedSet := by rw [hi]
    show x ∈ (if d.actions.report then insertId id (s.refreshInhibit id).table.changedSet else (s.refreshInhibit id).table.changedSet) ↔ _
    rw [hc]; split
    · rename_i h; rw [mem_insertId]; simp [h, or_comm]
    · rename_i h; simp [h]
  · intro h
    unfold State.conditionChanged State.noticeWake
    rw [hP, if_pos h]
    unfold State.takeWakeNotice State.addWake
    simp only [hP, WakeCauses.add]
    cases s.power.firstPoint <;> rfl
  · intro h
    unfold State.conditionChanged State.noticeWake
    rw [hP, if_neg (by rw [h]; decide)]
    exact hP

end Sys2Proof.Laws
end

