-- ==== Sys2Proof/Laws/Frames.lean ====
section
/-! SUPPORT. What the running of rounds and of the tail can do, said once: outside SETTLING it moves the phase, the tail,
the ring, the captures and the judgement of points, and leaves the rest of the part as the frame start left it. -/

namespace Sys2Proof.Laws

open Sys2Proof.Machine

/-- `t` differs from `s` by the running of rounds and of the tail alone, with frames going on in ACTIVE. -/
structure OnlyRuns (s t : State) : Prop where
  vsup : t.vsup = s.vsup
  pins : t.pins = s.pins
  port : t.port = s.port
  seq : t.seq = s.seq
  power : t.power = s.power
  store : t.store = s.store
  engine : t.engine = s.engine
  freeIndex : t.freeIndex = s.freeIndex
  pending : t.pending = s.pending
  active : t.clock.active = s.clock.active
  waiting : t.clock.waiting = s.clock.waiting
  number : t.clock.number = s.clock.number
  opened : t.clock.opened = s.clock.opened
  timer : t.clock.timer = s.clock.timer
  given : t.clock.given = s.clock.given
  discoveryPending : t.clock.discoveryPending = s.clock.discoveryPending
  discoveryRunning : t.clock.discoveryRunning = s.clock.discoveryRunning
  mask : t.attention.mask = s.attention.mask
  contactor : t.attention.set.contactor = s.attention.set.contactor
  update : t.attention.set.update = s.attention.set.update
  powerCause : t.attention.set.power = s.attention.set.power
  tamper : t.attention.set.tamper = s.attention.set.tamper
  storeCause : t.attention.set.store = s.attention.set.store
  definitions : ∀ id, (t.point id).liveDefinition? = (s.point id).liveDefinition?
  vacant : ∀ id, t.point id = .vacant ↔ s.point id = .vacant

theorem OnlyRuns.refl (s : State) : OnlyRuns s s := by
  constructor <;> first | rfl | (intro _; rfl)

theorem OnlyRuns.trans {s t u : State} (h : OnlyRuns s t) (k : OnlyRuns t u) : OnlyRuns s u where
  vsup := k.vsup.trans h.vsup
  pins := k.pins.trans h.pins
  port := k.port.trans h.port
  seq := k.seq.trans h.seq
  power := k.power.trans h.power
  store := k.store.trans h.store
  engine := k.engine.trans h.engine
  freeIndex := k.freeIndex.trans h.freeIndex
  pending := k.pending.trans h.pending
  active := k.active.trans h.active
  waiting := k.waiting.trans h.waiting
  number := k.number.trans h.number
  opened := k.opened.trans h.opened
  timer := k.timer.trans h.timer
  given := k.given.trans h.given
  discoveryPending := k.discoveryPending.trans h.discoveryPending
  discoveryRunning := k.discoveryRunning.trans h.discoveryRunning
  mask := k.mask.trans h.mask
  contactor := k.contactor.trans h.contactor
  update := k.update.trans h.update
  powerCause := k.powerCause.trans h.powerCause
  tamper := k.tamper.trans h.tamper
  storeCause := k.storeCause.trans h.storeCause
  definitions := fun id => (k.definitions id).trans (h.definitions id)
  vacant := fun id => (k.vacant id).trans (h.vacant id)

/-- Judgement in ACTIVE. -/
theorem onlyRuns_of_judges (s t : State) (h : OnlyJudges s t) (ha : s.power.state = .active) : OnlyRuns s t where
  vsup := h.vsup
  pins := h.pins
  port := h.port
  seq := h.seq
  power := h.awake (by rw [ha]; simp)
  store := h.store
  engine := h.engine
  freeIndex := h.freeIndex
  pending := h.pending
  active := by rw [h.clock]
  waiting := by rw [h.clock]
  number := by rw [h.clock]
  opened := by rw [h.clock]
  timer := by rw [h.clock]
  given := by rw [h.clock]
  discoveryPending := by rw [h.clock]
  discoveryRunning := by rw [h.clock]
  mask := by rw [h.attention]
  contactor := by rw [h.attention]
  update := by rw [h.attention]
  powerCause := by rw [h.attention]
  tamper := by rw [h.attention]
  storeCause := by rw [h.attention]
  definitions := h.definitions
  vacant := h.vacant

theorem setEntry_runs (s : State) (a : Nat) (e : RosterEntry) : OnlyRuns s (s.setEntry a e) := by
  constructor <;> first | rfl | (intro _; rfl)

theorem raise_chain_runs (s : State) : OnlyRuns s (s.raise .chain) := by
  constructor <;> first | rfl | (intro _; rfl)

theorem sendRead_runs (s : State) (r : Read) : OnlyRuns s (s.sendRead r) := by
  constructor <;> first | rfl | (intro _; rfl)

theorem convert_runs (s : State) : OnlyRuns s s.convert := by
  constructor <;> first | rfl | (intro _; rfl)

theorem setCapture_runs (s : State) (c : Converter) (x : Option Capture) : OnlyRuns s (s.setCapture c x) := by
  cases c <;> constructor <;> first | rfl | (intro _; rfl)

theorem setPhase_runs (s : State) (p : ClockPhase) : OnlyRuns s (s.setPhase p) := by
  constructor <;> first | rfl | (intro _; rfl)

theorem setTailInFlight_runs (s : State) (b : Bool) : OnlyRuns s (s.setTailInFlight b) := by
  constructor <;> first | rfl | (intro _; rfl)

theorem popTail_runs (s : State) : OnlyRuns s s.popTail := by
  constructor <;> first | rfl | (intro _; rfl)

theorem foldl_runs {α : Type} (f : State → α → State) (h : ∀ s x, OnlyRuns s (f s x)) (xs : List α) (s : State) :
    OnlyRuns s (xs.foldl f s) := by
  induction xs generalizing s with
  | nil => exact .refl _
  | cons x rest ih => exact (h s x).trans (ih _)

theorem countMonitor_runs (s : State) (r : Round) (a : Nat) : OnlyRuns s (s.countMonitor r a) := by
  unfold State.countMonitor
  simp only
  split
  · split
    · exact (setEntry_runs _ _ _).trans (raise_chain_runs _)
    · exact setEntry_runs _ _ _
  · split
    · exact setEntry_runs _ _ _
    · exact .refl _

theorem countRound_runs (s : State) (r : Round) : OnlyRuns s (s.countRound r) :=
  foldl_runs _ (fun t a => countMonitor_runs t r a) _ s

theorem captureFor_runs (s : State) (ids : List Nat) (c : Converter) : OnlyRuns s (s.captureFor ids c) := by
  unfold State.captureFor
  split
  · exact .refl _
  · exact setCapture_runs _ _ _

theorem captureRound_runs (s : State) (ids : List Nat) : OnlyRuns s (s.captureRound ids) :=
  ((captureFor_runs _ _ _).trans (captureFor_runs _ _ _)).trans (captureFor_runs _ _ _)

theorem captureSpot_runs (s : State) (id : Nat) (c : Converter) : OnlyRuns s (s.captureSpot id c) := by
  unfold State.captureSpot
  split <;> exact setCapture_runs _ _ _

theorem setRound_runs (s : State) (x : Option Round) : OnlyRuns s { s with chain := { s.chain with round := x } } := by
  constructor <;> first | rfl | (intro _; rfl)

theorem beginRound_runs (s : State) (b : Bool) (ids : List Nat) (reach : Nat → Bool) (ha : s.power.state = .active) :
    OnlyRuns s (s.beginRound b ids reach) := by
  have h : OnlyRuns s (s.missAll (ids.filter (fun id => (s.readEntry? id).any (fun e => !reach e.1)))) :=
    onlyRuns_of_judges _ _ (missAll_judges _ _) ha
  unfold State.beginRound
  simp only
  split
  · exact h
  · exact ((h.trans (setRound_runs _ _)).trans (convert_runs _)).trans (sendRead_runs _ _)

/-- What the service of an item can do. -/
def Service.state : Service → State
  | .inFlight t => t
  | .completed t => t

theorem serve_runs (s : State) (x : TailItem) (ha : s.power.state = .active) : OnlyRuns s (Service.state (s.serve x)) := by
  have hspot : ∀ id v, OnlyRuns s (s.completeSpot id v) := fun id v =>
    onlyRuns_of_judges _ _ (completeSpot_judges s id v) ha
  unfold State.serve
  split
  · split
    · unfold State.serveSpot
      split
      · exact captureSpot_runs _ _ _
      · split
        · exact (convert_runs _).trans (sendRead_runs _ _)
        · exact hspot _ _
      · exact hspot _ _
    · exact .refl _
  · unfold State.serveMstat
    split
    · exact sendRead_runs _ _
    · exact raise_chain_runs _

theorem serveTail_runs (n : Nat) (s : State) (ha : s.power.state = .active) : OnlyRuns s (s.serveTail n) := by
  induction n generalizing s with
  | zero => exact .refl _
  | succ n ih =>
    unfold State.serveTail
    split
    · exact .refl _
    · rename_i x _ _
      split
      · have hx := serve_runs s x ha
        split
        · rename_i t he; rw [he] at hx; exact hx.trans (setTailInFlight_runs _ _)
        · rename_i t he
          rw [he] at hx
          have hp : t.popTail.power.state = .active := by
            show t.power.state = .active
            rw [show t.power = s.power from hx.power]; exact ha
          exact (hx.trans (popTail_runs _)).trans (ih _ hp)
      · exact .refl _

theorem runTail_runs (s : State) (ha : s.power.state = .active) : OnlyRuns s s.runTail := serveTail_runs _ s ha

theorem frameClose_runs (s : State) (ha : s.power.state = .active) : OnlyRuns s s.frameClose := by
  have h := onlyRuns_of_judges _ _ (judgeAggregates_judges s s.dueAggregates) ha
  have hp : (s.judgeAggregates s.dueAggregates).power.state = .active := by rw [h.power]; exact ha
  unfold State.frameClose
  simp only [hp]
  exact (h.trans (setPhase_runs _ _)).trans (runTail_runs _ hp)

theorem roundEnded_runs (s : State) (k : Nat) (ha : s.power.state = .active) : OnlyRuns s (s.roundEnded k) := by
  unfold State.roundEnded
  split
  · exact frameClose_runs s ha
  · exact setPhase_runs _ _

theorem startSlot_runs (s : State) (k : Nat) (ha : s.power.state = .active) : OnlyRuns s (s.startSlot k) := by
  have h1 : OnlyRuns s ((s.setPhase (.slot k true)).captureRound (s.slotPoints k)) :=
    (setPhase_runs _ _).trans (captureRound_runs _ _)
  have hp : ((s.setPhase (.slot k true)).captureRound (s.slotPoints k)).power.state = .active := by
    rw [h1.power]; exact ha
  unfold State.startSlot
  simp only
  generalize (s.setPhase (.slot k true)).captureRound (s.slotPoints k) = t at h1 hp
  generalize hu : (if t.clock.given = true then
      t.missAll ((s.slotPoints k).filter (fun id => (s.readEntry? id).isSome))
    else t.beginRound false ((s.slotPoints k).filter (fun id => (s.readEntry? id).isSome)) t.readable) = u
  have h2 : OnlyRuns t u := by
    rw [← hu]
    split
    · exact onlyRuns_of_judges _ _ (missAll_judges _ _) hp
    · exact beginRound_runs _ _ _ _ hp
  have hp2 : u.power.state = .active := by rw [h2.power]; exact hp
  split
  · exact h1.trans h2
  · exact (h1.trans h2).trans (roundEnded_runs _ _ hp2)

theorem overrun_runs (s : State) (ha : s.power.state = .active) : OnlyRuns s s.overrun := by
  unfold State.overrun
  split
  · exact .refl _
  · rename_i r _
    simp only
    have h0 : OnlyRuns s { s with chain := { s.chain with round := none, read := none } } := by
      constructor <;> first | rfl | (intro _; rfl)
    have h1 := h0.trans (onlyRuns_of_judges _ _ (missAll_judges { s with chain := { s.chain with round := none, read := none } }
      (s.dependents r.queue r.points)) ha)
    refine (h1.trans ?_).trans (countRound_runs _ _)
    constructor <;> first | rfl | (intro _; rfl)

/-! ### The Point Table's applications at a frame start (R14 to R16) -/

/-- `t` differs from `s` in the Point Table, the tail queue and the cause POINTS alone. -/
structure OnlyApplies (s t : State) : Prop where
  vsup : t.vsup = s.vsup
  pins : t.pins = s.pins
  port : t.port = s.port
  chain : t.chain = s.chain
  sense : t.sense = s.sense
  seq : t.seq = s.seq
  power : t.power = s.power
  store : t.store = s.store
  engine : t.engine = s.engine
  freeIndex : t.freeIndex = s.freeIndex
  pending : t.pending = s.pending
  clock : t.clock = { s.clock with tail := t.clock.tail }
  attention : t.attention = { s.attention with set := { s.attention.set with points := t.attention.set.points } }

theorem OnlyApplies.refl (s : State) : OnlyApplies s s := by constructor <;> rfl

theorem OnlyApplies.trans {s t u : State} (h : OnlyApplies s t) (k : OnlyApplies t u) : OnlyApplies s u where
  vsup := k.vsup.trans h.vsup
  pins := k.pins.trans h.pins
  port := k.port.trans h.port
  chain := k.chain.trans h.chain
  sense := k.sense.trans h.sense
  seq := k.seq.trans h.seq
  power := k.power.trans h.power
  store := k.store.trans h.store
  engine := k.engine.trans h.engine
  freeIndex := k.freeIndex.trans h.freeIndex
  pending := k.pending.trans h.pending
  clock := by rw [k.clock, h.clock]
  attention := by rw [k.attention, h.attention]

theorem setPoint_applies (s : State) (id : Nat) (p : Point) : OnlyApplies s (s.setPoint id p) := by constructor <;> rfl

theorem vacate_applies (s : State) (id : Nat) : OnlyApplies s (s.vacate id) := by
  unfold State.vacate State.removeChanged State.setChanged
  simp only
  split
  · split <;> constructor <;> rfl
  · constructor <;> rfl

theorem point_vacate (s : State) (id x : Nat) : (s.vacate id).point x = if x = id then .vacant else s.point x := by
  have h : (s.vacate id).table.points = (s.setPoint id .vacant).table.points := by
    unfold State.vacate State.removeChanged State.setChanged
    simp only
    split
    · split <;> rfl
    · rfl
  rw [point_of_table _ _ h, point_setPoint]
  by_cases hx : x = id
  · by_cases hl : id < 384
    · simp [hx, hl]
    · simp [hx, hl, State.point]
  · simp [hx]

/-- R14 to R16: what a frame start makes of a record. -/
def applied (s : State) (id : Nat) : Point → Point
  | .enlisting d => .live d (.fresh (s.amendedFrom id d)) none
  | .live d l (some (.fields c)) =>
    .live (c.applyTo d)
      { l with
        excursion := min l.excursion (c.applyTo d).persistence
        amended := s.amendedFrom id (c.applyTo d) } none
  | .live _ _ (some .retire) => .vacant
  | .live d l none => .live d l none
  | .vacant => .vacant

theorem applyPoint_applies (s : State) (id : Nat) : OnlyApplies s (s.applyPoint id) := by
  unfold State.applyPoint
  split
  · exact setPoint_applies _ _ _
  · exact setPoint_applies _ _ _
  · exact vacate_applies _ _
  · exact .refl _
  · exact .refl _

theorem point_applyPoint (s : State) (id x : Nat) :
    (s.applyPoint id).point x = if x = id then applied s id (s.point id) else s.point x := by
  unfold State.applyPoint
  split <;> rename_i h
  · have hl := lt_of_point_ne_vacant s id (by simp [h])
    rw [point_setPoint]; simp [hl, applied, h]
  · have hl := lt_of_point_ne_vacant s id (by simp [h])
    rw [point_setPoint]; simp [hl, applied, h]
  · rw [point_vacate]; simp [applied, h]
  · by_cases hx : x = id <;> simp [hx, applied, h]
  · by_cases hx : x = id <;> simp [hx, applied, h]

theorem applyPoints_applies (s : State) : OnlyApplies s s.applyPoints := by
  have h : ∀ (ids : List Nat) (t : State), OnlyApplies t (ids.foldl (fun u id => u.applyPoint id) t) := by
    intro ids
    induction ids with
    | nil => exact fun t => .refl t
    | cons a rest ih => exact fun t => (applyPoint_applies t a).trans (ih _)
  exact h _ s

theorem amendedFrom_of_store (s t : State) (h : t.store = s.store) (id : Nat) (d : Definition) :
    t.amendedFrom id d = s.amendedFrom id d := by
  have hb : ∀ b, t.bank b = s.bank b := by intro b; cases b <;> simp [State.bank, h]
  simp [State.amendedFrom, State.storedDefinition, h, hb]

theorem point_applyPoints (s : State) (id : Nat) :
    s.applyPoints.point id = if id < 384 then applied s id (s.point id) else s.point id := by
  have := point_foldl (fun t id => t.applyPoint id) applied (fun _ => True) (fun t i x _ => point_applyPoint t i x)
    (fun _ _ _ => trivial) (fun t i x p _ => by
      have ha := amendedFrom_of_store t (t.applyPoint i) (applyPoint_applies t i).store
      unfold applied
      split <;> simp [ha]) tableIds s trivial tableIds_nodup id
  unfold State.applyPoints
  simpa [mem_tableIds] using this

end Sys2Proof.Laws
end

