-- ==== Sys2Proof/Laws/Memory.lean ====
section
/-! SUPPORT. The bank memory: the canonical form is kept by every write, a write is what later reads see, and a read of
several bytes reads each of them. -/

namespace Sys2Proof.Laws

open Sys2Proof.Machine

/-- The canonical form, as a property of the list. -/
theorem memory_wf_iff (m : Memory) :
    m.wf = true ↔ (∀ c ∈ m, c.2 ≠ erasedByte) ∧ m.Pairwise (fun c d => c.1 < d.1) := by
  induction m with
  | nil => simp [Memory.wf]
  | cons c m ih =>
    obtain ⟨a, b⟩ := c
    cases m with
    | nil => simp [Memory.wf]
    | cons c' m =>
      obtain ⟨a', b'⟩ := c'
      simp only [Memory.wf, Bool.and_eq_true, decide_eq_true_eq, ih, List.pairwise_cons, List.mem_cons, forall_eq_or_imp]
      constructor
      · rintro ⟨⟨hb, haa⟩, ⟨hb', hm⟩, h1, h2⟩
        exact ⟨⟨hb, hb', hm⟩, ⟨haa, fun c hc => Nat.lt_trans haa (h1 c hc)⟩, h1, h2⟩
      · rintro ⟨⟨hb, hb', hm⟩, ⟨haa, _⟩, h1, h2⟩
        exact ⟨⟨hb, haa⟩, ⟨hb', hm⟩, h1, h2⟩

theorem cellsFrom_bounds (vs : List Byte) (x : Nat) :
    ∀ c ∈ cellsFrom x vs, x ≤ c.1 ∧ c.1 < x + vs.length ∧ c.2 ≠ erasedByte := by
  induction vs generalizing x with
  | nil => simp [cellsFrom]
  | cons v vs ih =>
    intro c hc
    simp only [cellsFrom] at hc
    have tail : ∀ c ∈ cellsFrom (x + 1) vs, x ≤ c.1 ∧ c.1 < x + (v :: vs).length ∧ c.2 ≠ erasedByte := by
      intro d hd
      have := ih (x + 1) d hd
      simp only [List.length_cons]
      exact ⟨by omega, by omega, this.2.2⟩
    split at hc
    · exact tail c hc
    · rename_i hv
      rcases List.mem_cons.1 hc with h | h
      · subst h
        simp only [List.length_cons]
        exact ⟨Nat.le_refl _, by omega, hv⟩
      · exact tail c h

theorem cellsFrom_sorted (vs : List Byte) (x : Nat) : (cellsFrom x vs).Pairwise (fun c d => c.1 < d.1) := by
  induction vs generalizing x with
  | nil => simp [cellsFrom]
  | cons v vs ih =>
    simp only [cellsFrom]
    split
    · exact ih (x + 1)
    · rw [List.pairwise_cons]
      refine ⟨fun c hc => ?_, ih (x + 1)⟩
      have := (cellsFrom_bounds vs (x + 1) c hc).1
      show x < c.1
      omega

/-- A write keeps the canonical form. -/
theorem writeBytes_wf (m : Memory) (x : Nat) (vs : List Byte) (h : m.wf = true) : (m.writeBytes x vs).wf = true := by
  rw [memory_wf_iff] at h ⊢
  obtain ⟨hb, hs⟩ := h
  unfold Memory.writeBytes
  constructor
  · intro c hc
    simp only [List.mem_append, List.mem_filter, decide_eq_true_eq] at hc
    rcases hc with (⟨h1, _⟩ | h1) | ⟨h1, _⟩
    · exact hb c h1
    · exact (cellsFrom_bounds vs x c h1).2.2
    · exact hb c h1
  · rw [List.pairwise_append, List.pairwise_append]
    refine ⟨⟨hs.filter _, cellsFrom_sorted vs x, ?_⟩, hs.filter _, ?_⟩
    · intro c hc d hd
      have h1 := (List.mem_filter.1 hc).2
      have h2 := cellsFrom_bounds vs x d hd
      simp only [decide_eq_true_eq] at h1
      omega
    · intro c hc d hd
      have h2 := (List.mem_filter.1 hd).2
      simp only [decide_eq_true_eq] at h2
      rcases List.mem_append.1 hc with h1 | h1
      · have h3 := (List.mem_filter.1 h1).2
        simp only [decide_eq_true_eq] at h3
        omega
      · have h3 := cellsFrom_bounds vs x c h1
        omega

theorem read_append_of_absent (m n : Memory) (y : Nat) (h : ∀ c ∈ m, c.1 ≠ y) : Memory.read (m ++ n) y = Memory.read n y := by
  induction m with
  | nil => rfl
  | cons c m ih =>
    obtain ⟨a, b⟩ := c
    have hne : y ≠ a := fun e => h (a, b) (List.mem_cons_self ..) e.symm
    simp only [List.cons_append, Memory.read, if_neg hne]
    exact ih (fun c hc => h c (List.mem_cons_of_mem _ hc))

theorem read_absent (m : Memory) (y : Nat) (h : ∀ c ∈ m, c.1 ≠ y) : m.read y = erasedByte := by
  have := read_append_of_absent m [] y h
  simpa [Memory.read] using this

theorem read_filter_append (m n : Memory) (p : Host.Cell → Bool) (y : Nat) (hp : ∀ b, p (y, b) = true)
    (hn : ∀ c ∈ n, c.1 ≠ y) : Memory.read (m.filter p ++ n) y = m.read y := by
  induction m with
  | nil => simpa [Memory.read] using read_absent n y hn
  | cons c m ih =>
    obtain ⟨a, b⟩ := c
    by_cases e : y = a
    · subst e
      simp [hp, Memory.read]
    · by_cases hpa : p (a, b) = true
      · simp only [List.filter_cons, hpa, if_true, List.cons_append, Memory.read, if_neg e]
        exact ih
      · simp only [List.filter_cons, if_neg hpa, Memory.read, if_neg e]
        exact ih

theorem read_cellsFrom (vs : List Byte) (x y : Nat) (n : Memory) (h : x ≤ y) (hy : y < x + vs.length)
    (hn : ∀ c ∈ n, c.1 ≠ y) : Memory.read (cellsFrom x vs ++ n) y = vs.getD (y - x) erasedByte := by
  induction vs generalizing x with
  | nil => simp only [List.length_nil] at hy; omega
  | cons v vs ih =>
    simp only [List.length_cons] at hy
    by_cases e : y = x
    · subst e
      have absent : Memory.read (cellsFrom (y + 1) vs ++ n) y = erasedByte := by
        rw [read_append_of_absent _ _ _ (fun c hc => by have := (cellsFrom_bounds vs (y + 1) c hc).1; omega)]
        exact read_absent n y hn
      simp only [cellsFrom, Nat.sub_self, List.getD_cons_zero]
      split
      · rename_i hv; rw [absent, hv]
      · simp [Memory.read]
    · have hlt : x < y := by omega
      have step : (v :: vs).getD (y - x) erasedByte = vs.getD (y - (x + 1)) erasedByte := by
        have : y - x = (y - (x + 1)) + 1 := by omega
        rw [this, List.getD_cons_succ]
      rw [step]
      simp only [cellsFrom]
      split
      · exact ih (x + 1) (by omega) (by omega)
      · simp only [List.cons_append, Memory.read, if_neg e]
        exact ih (x + 1) (by omega) (by omega)

/-- A write is what a later read sees, and no other byte changes. -/
theorem read_writeBytes (m : Memory) (x y : Nat) (vs : List Byte) :
    (m.writeBytes x vs).read y = if x ≤ y ∧ y < x + vs.length then vs.getD (y - x) erasedByte else m.read y := by
  unfold Memory.writeBytes
  split
  · rename_i h
    rw [List.append_assoc, read_append_of_absent]
    · exact read_cellsFrom vs x y _ h.1 h.2 (fun c hc => by
        have := (List.mem_filter.1 hc).2; simp only [decide_eq_true_eq] at this; omega)
    · intro c hc
      have := (List.mem_filter.1 hc).2
      simp only [decide_eq_true_eq] at this
      omega
  · rename_i h
    by_cases hlt : y < x
    · rw [List.append_assoc]
      refine read_filter_append m _ _ y (fun b => by simpa using hlt) ?_
      intro c hc
      rcases List.mem_append.1 hc with h1 | h1
      · have := cellsFrom_bounds vs x c h1; omega
      · have := (List.mem_filter.1 h1).2; simp only [decide_eq_true_eq] at this; omega
    · have hge : x + vs.length ≤ y := by omega
      rw [read_append_of_absent]
      · have := read_filter_append m [] (fun c => decide (x + vs.length ≤ c.1)) y (fun b => by simpa using hge) (by simp)
        simpa using this
      · intro c hc
        rcases List.mem_append.1 hc with h1 | h1
        · have := (List.mem_filter.1 h1).2; simp only [decide_eq_true_eq] at this; omega
        · have := cellsFrom_bounds vs x c h1; omega

theorem fill_eq (n x : Nat) (m : Memory) (hs : m.Pairwise (fun c d => c.1 < d.1)) (hx : ∀ c ∈ m, x ≤ c.1) :
    Memory.fill x n m = (List.range n).map (fun i => m.read (x + i)) := by
  induction n generalizing x m with
  | zero => simp [Memory.fill]
  | succ n ih =>
    rw [List.range_succ_eq_map, List.map_cons, List.map_map]
    cases m with
    | nil =>
      simp only [Memory.fill]
      rw [ih (x + 1) [] List.Pairwise.nil (fun _ h => absurd h List.not_mem_nil)]
      rfl
    | cons c m =>
      obtain ⟨a, b⟩ := c
      rw [List.pairwise_cons] at hs
      have hxa : x ≤ a := hx (a, b) (List.mem_cons_self ..)
      simp only [Memory.fill]
      split
      · rename_i e
        subst e
        rw [ih (a + 1) m hs.2 (fun c hc => hs.1 c hc)]
        simp only [Nat.add_zero, Memory.read, if_true, List.cons.injEq, true_and]
        apply List.map_congr_left
        intro i _
        have : a + (i + 1) ≠ a := by omega
        simp only [Function.comp, Nat.succ_eq_add_one, if_neg this]
        rw [show a + 1 + i = a + (i + 1) by omega]
      · rename_i e
        have hlt : x < a := by omega
        rw [ih (x + 1) ((a, b) :: m) (List.pairwise_cons.2 hs) (by
          intro c hc
          rcases List.mem_cons.1 hc with h | h
          · subst h; exact hlt
          · have := hs.1 c h; simp only at this; omega)]
        have habs : Memory.read ((a, b) :: m) (x + 0) = erasedByte := by
          apply read_absent
          intro c hc
          rcases List.mem_cons.1 hc with h | h
          · subst h; simp only; omega
          · have := hs.1 c h; simp only at this; omega
        rw [habs]
        simp only [List.cons.injEq, true_and]
        apply List.map_congr_left
        intro i _
        simp only [Function.comp, Nat.succ_eq_add_one]
        rw [show x + 1 + i = x + (i + 1) by omega]

/-- Reading several bytes reads each of them. -/
theorem readBytes_eq (m : Memory) (x n : Nat) (h : m.wf = true) :
    m.readBytes x n = (List.range n).map (fun i => m.read (x + i)) := by
  obtain ⟨_, hs⟩ := (memory_wf_iff m).1 h
  unfold Memory.readBytes
  rw [fill_eq n x _ (hs.filter _) (fun c hc => by simpa using (List.mem_filter.1 hc).2)]
  apply List.map_congr_left
  intro i _
  have := read_filter_append m [] (fun c => decide (x ≤ c.1)) (x + i) (fun b => by simp) (by simp)
  simpa using this

end Sys2Proof.Laws
end

