-- ==== Sys2Proof/Laws/Store.lean ====
section
/-! SUPPORT. The write arbiter, said once: which part of the Store each of its operations writes, and that the bank memories
keep their canonical form. -/

namespace Sys2Proof.Laws

open Sys2Proof.Machine

/-! ### The areas -/

@[simp] theorem setBank_vsup (s : State) (b : BankId) (m : Memory) :
    (s.setBank b m).vsup = s.vsup := by
  cases b <;> rfl
@[simp] theorem setBank_pins (s : State) (b : BankId) (m : Memory) :
    (s.setBank b m).pins = s.pins := by
  cases b <;> rfl
@[simp] theorem setBank_port (s : State) (b : BankId) (m : Memory) :
    (s.setBank b m).port = s.port := by
  cases b <;> rfl
@[simp] theorem setBank_table (s : State) (b : BankId) (m : Memory) :
    (s.setBank b m).table = s.table := by
  cases b <;> rfl
@[simp] theorem setBank_clock (s : State) (b : BankId) (m : Memory) :
    (s.setBank b m).clock = s.clock := by
  cases b <;> rfl
@[simp] theorem setBank_chain (s : State) (b : BankId) (m : Memory) :
    (s.setBank b m).chain = s.chain := by
  cases b <;> rfl
@[simp] theorem setBank_sense (s : State) (b : BankId) (m : Memory) :
    (s.setBank b m).sense = s.sense := by
  cases b <;> rfl
@[simp] theorem setBank_seq (s : State) (b : BankId) (m : Memory) :
    (s.setBank b m).seq = s.seq := by
  cases b <;> rfl
@[simp] theorem setBank_power (s : State) (b : BankId) (m : Memory) :
    (s.setBank b m).power = s.power := by
  cases b <;> rfl
@[simp] theorem setBank_engine (s : State) (b : BankId) (m : Memory) :
    (s.setBank b m).engine = s.engine := by
  cases b <;> rfl
@[simp] theorem setBank_attention (s : State) (b : BankId) (m : Memory) :
    (s.setBank b m).attention = s.attention := by
  cases b <;> rfl
@[simp] theorem setBank_freeIndex (s : State) (b : BankId) (m : Memory) :
    (s.setBank b m).freeIndex = s.freeIndex := by
  cases b <;> rfl
@[simp] theorem setBank_pending (s : State) (b : BankId) (m : Memory) :
    (s.setBank b m).pending = s.pending := by
  cases b <;> rfl

@[simp] theorem setBankState_vsup (s : State) (b : BankId) (x : BankState) :
    (s.setBankState b x).vsup = s.vsup := by
  cases b <;> rfl
@[simp] theorem setBankState_pins (s : State) (b : BankId) (x : BankState) :
    (s.setBankState b x).pins = s.pins := by
  cases b <;> rfl
@[simp] theorem setBankState_port (s : State) (b : BankId) (x : BankState) :
    (s.setBankState b x).port = s.port := by
  cases b <;> rfl
@[simp] theorem setBankState_table (s : State) (b : BankId) (x : BankState) :
    (s.setBankState b x).table = s.table := by
  cases b <;> rfl
@[simp] theorem setBankState_clock (s : State) (b : BankId) (x : BankState) :
    (s.setBankState b x).clock = s.clock := by
  cases b <;> rfl
@[simp] theorem setBankState_chain (s : State) (b : BankId) (x : BankState) :
    (s.setBankState b x).chain = s.chain := by
  cases b <;> rfl
@[simp] theorem setBankState_sense (s : State) (b : BankId) (x : BankState) :
    (s.setBankState b x).sense = s.sense := by
  cases b <;> rfl
@[simp] theorem setBankState_seq (s : State) (b : BankId) (x : BankState) :
    (s.setBankState b x).seq = s.seq := by
  cases b <;> rfl
@[simp] theorem setBankState_power (s : State) (b : BankId) (x : BankState) :
    (s.setBankState b x).power = s.power := by
  cases b <;> rfl
@[simp] theorem setBankState_engine (s : State) (b : BankId) (x : BankState) :
    (s.setBankState b x).engine = s.engine := by
  cases b <;> rfl
@[simp] theorem setBankState_attention (s : State) (b : BankId) (x : BankState) :
    (s.setBankState b x).attention = s.attention := by
  cases b <;> rfl
@[simp] theorem setBankState_freeIndex (s : State) (b : BankId) (x : BankState) :
    (s.setBankState b x).freeIndex = s.freeIndex := by
  cases b <;> rfl
@[simp] theorem setBankState_pending (s : State) (b : BankId) (x : BankState) :
    (s.setBankState b x).pending = s.pending := by
  cases b <;> rfl

@[simp] theorem setCounterSlot_vsup (s : State) (i : SlotId) (x : SlotBytes) :
    (s.setCounterSlot i x).vsup = s.vsup := by
  cases i <;> rfl
@[simp] theorem setCounterSlot_pins (s : State) (i : SlotId) (x : SlotBytes) :
    (s.setCounterSlot i x).pins = s.pins := by
  cases i <;> rfl
@[simp] theorem setCounterSlot_port (s : State) (i : SlotId) (x : SlotBytes) :
    (s.setCounterSlot i x).port = s.port := by
  cases i <;> rfl
@[simp] theorem setCounterSlot_table (s : State) (i : SlotId) (x : SlotBytes) :
    (s.setCounterSlot i x).table = s.table := by
  cases i <;> rfl
@[simp] theorem setCounterSlot_clock (s : State) (i : SlotId) (x : SlotBytes) :
    (s.setCounterSlot i x).clock = s.clock := by
  cases i <;> rfl
@[simp] theorem setCounterSlot_chain (s : State) (i : SlotId) (x : SlotBytes) :
    (s.setCounterSlot i x).chain = s.chain := by
  cases i <;> rfl
@[simp] theorem setCounterSlot_sense (s : State) (i : SlotId) (x : SlotBytes) :
    (s.setCounterSlot i x).sense = s.sense := by
  cases i <;> rfl
@[simp] theorem setCounterSlot_seq (s : State) (i : SlotId) (x : SlotBytes) :
    (s.setCounterSlot i x).seq = s.seq := by
  cases i <;> rfl
@[simp] theorem setCounterSlot_power (s : State) (i : SlotId) (x : SlotBytes) :
    (s.setCounterSlot i x).power = s.power := by
  cases i <;> rfl
@[simp] theorem setCounterSlot_engine (s : State) (i : SlotId) (x : SlotBytes) :
    (s.setCounterSlot i x).engine = s.engine := by
  cases i <;> rfl
@[simp] theorem setCounterSlot_attention (s : State) (i : SlotId) (x : SlotBytes) :
    (s.setCounterSlot i x).attention = s.attention := by
  cases i <;> rfl
@[simp] theorem setCounterSlot_freeIndex (s : State) (i : SlotId) (x : SlotBytes) :
    (s.setCounterSlot i x).freeIndex = s.freeIndex := by
  cases i <;> rfl
@[simp] theorem setCounterSlot_pending (s : State) (i : SlotId) (x : SlotBytes) :
    (s.setCounterSlot i x).pending = s.pending := by
  cases i <;> rfl

@[simp] theorem setKeyCopy_vsup (s : State) (i : CopyId) (x : CopyBytes) :
    (s.setKeyCopy i x).vsup = s.vsup := by
  cases i <;> rfl
@[simp] theorem setKeyCopy_pins (s : State) (i : CopyId) (x : CopyBytes) :
    (s.setKeyCopy i x).pins = s.pins := by
  cases i <;> rfl
@[simp] theorem setKeyCopy_port (s : State) (i : CopyId) (x : CopyBytes) :
    (s.setKeyCopy i x).port = s.port := by
  cases i <;> rfl
@[simp] theorem setKeyCopy_table (s : State) (i : CopyId) (x : CopyBytes) :
    (s.setKeyCopy i x).table = s.table := by
  cases i <;> rfl
@[simp] theorem setKeyCopy_clock (s : State) (i : CopyId) (x : CopyBytes) :
    (s.setKeyCopy i x).clock = s.clock := by
  cases i <;> rfl
@[simp] theorem setKeyCopy_chain (s : State) (i : CopyId) (x : CopyBytes) :
    (s.setKeyCopy i x).chain = s.chain := by
  cases i <;> rfl
@[simp] theorem setKeyCopy_sense (s : State) (i : CopyId) (x : CopyBytes) :
    (s.setKeyCopy i x).sense = s.sense := by
  cases i <;> rfl
@[simp] theorem setKeyCopy_seq (s : State) (i : CopyId) (x : CopyBytes) :
    (s.setKeyCopy i x).seq = s.seq := by
  cases i <;> rfl
@[simp] theorem setKeyCopy_power (s : State) (i : CopyId) (x : CopyBytes) :
    (s.setKeyCopy i x).power = s.power := by
  cases i <;> rfl
@[simp] theorem setKeyCopy_engine (s : State) (i : CopyId) (x : CopyBytes) :
    (s.setKeyCopy i x).engine = s.engine := by
  cases i <;> rfl
@[simp] theorem setKeyCopy_attention (s : State) (i : CopyId) (x : CopyBytes) :
    (s.setKeyCopy i x).attention = s.attention := by
  cases i <;> rfl
@[simp] theorem setKeyCopy_freeIndex (s : State) (i : CopyId) (x : CopyBytes) :
    (s.setKeyCopy i x).freeIndex = s.freeIndex := by
  cases i <;> rfl
@[simp] theorem setKeyCopy_pending (s : State) (i : CopyId) (x : CopyBytes) :
    (s.setKeyCopy i x).pending = s.pending := by
  cases i <;> rfl

theorem bank_setBank (s : State) (b c : BankId) (m : Memory) :
    (s.setBank b m).bank c = if c = b then m else s.bank c := by
  cases b <;> cases c <;> rfl

@[simp] theorem bank_setBankState (s : State) (b c : BankId) (x : BankState) : (s.setBankState b x).bank c = s.bank c := by
  cases b <;> cases c <;> rfl

theorem bankState_setBankState (s : State) (b c : BankId) (x : BankState) :
    (s.setBankState b x).bankState c = if c = b then x else s.bankState c := by
  cases b <;> cases c <;> rfl

@[simp] theorem bank_setCounterSlot (s : State) (i : SlotId) (x : SlotBytes) (b : BankId) :
    (s.setCounterSlot i x).bank b = s.bank b := by
  cases i <;> cases b <;> rfl

@[simp] theorem bank_setKeyCopy (s : State) (i : CopyId) (x : CopyBytes) (b : BankId) :
    (s.setKeyCopy i x).bank b = s.bank b := by
  cases i <;> cases b <;> rfl

theorem counterSlot_setCounterSlot (s : State) (i j : SlotId) (x : SlotBytes) :
    (s.setCounterSlot i x).counterSlot j = if j = i then .decode x else s.counterSlot j := by
  cases i <;> cases j <;> rfl

theorem keyCopy_setKeyCopy (s : State) (i j : CopyId) (x : CopyBytes) :
    (s.setKeyCopy i x).keyCopy j = if j = i then .decode x else s.keyCopy j := by
  cases i <;> cases j <;> rfl

/-! ### Counter writes (R152, R154, R155) -/

/-- With nothing in flight a counter write request starts its write. -/
theorem requestCounterWrite_starts (s : State) (f : Bool) (h : s.store.inFlight = .none) :
    s.requestCounterWrite f = s.startCounterWrite f := by
  unfold State.requestCounterWrite; rw [h]

/-- With a write in flight the request is carried by the pending counter write. -/
theorem requestCounterWrite_waits (s : State) (f : Bool) (h : s.store.inFlight ≠ .none) :
    s.requestCounterWrite f =
      { s with store :=
        { s.store with counterPending := true, settlingWaits := s.store.settlingWaits || f } } := by
  unfold State.requestCounterWrite
  cases hf : s.store.inFlight with
  | none => exact absurd hf h
  | bank w => simp only
  | counter w => simp only
  | key w => simp only

/-- After a counter write request the Store is busy. -/
theorem requestCounterWrite_busy (s : State) (f : Bool) : (s.requestCounterWrite f).storeBusy = true := by
  by_cases h : s.store.inFlight = .none
  · rw [requestCounterWrite_starts s f h]; rfl
  · rw [requestCounterWrite_waits s f h]
    show (s.store.inFlight != .none || s.store.suspended.isSome || true || s.store.waiting.isSome) = true
    simp

/-- The start of a counter write (R154). -/
theorem startCounterWrite_eq (s : State) (f : Bool) :
    s.startCounterWrite f = s.setInFlight (.counter (s.store.nextCounterWrite f s.snapshot)) := by
  unfold State.startCounterWrite Store.nextCounterWrite
  cases s.store.slotInForce with
  | none => rfl
  | some x => cases x <;> rfl

/-- Everything a counter write request does: the Store as `Store.requested` says, and nothing else. -/
theorem requestCounterWrite_eq (s : State) (f : Bool) :
    s.requestCounterWrite f = { s with store := s.store.requested f s.snapshot } := by
  unfold State.requestCounterWrite Store.requested
  cases hf : s.store.inFlight with
  | none => rw [startCounterWrite_eq]; rfl
  | bank w => simp only [hf]
  | counter w => simp only [hf]
  | key w => simp only [hf]

/-- A counter write request that raises CONTACTOR too (R124, R125). -/
theorem requestCounterWrite_raise (s : State) : (s.requestCounterWrite false).raise .contactor = s.recorded := by
  rw [requestCounterWrite_eq]; rfl

/-- Everything the start of the next write does (R152). -/
theorem startNextWrite_counter (s : State) (h : s.store.counterPending = true) :
    s.startNextWrite =
      { s with store :=
        { s.store with
          counterPending := false, settlingWaits := false
          inFlight := .counter (s.store.nextCounterWrite s.store.settlingWaits s.snapshot) } } := by
  unfold State.startNextWrite
  rw [if_pos h]
  simp only [startCounterWrite_eq]
  rfl

/-- A counter write request writes the arbiter's fields and nothing else. -/
theorem requestCounterWrite_store (s : State) (f : Bool) :
    (s.requestCounterWrite f).store =
      { s.store with
        inFlight := (s.requestCounterWrite f).store.inFlight
        counterPending := (s.requestCounterWrite f).store.counterPending
        settlingWaits := (s.requestCounterWrite f).store.settlingWaits } := by
  by_cases h : s.store.inFlight = .none
  · rw [requestCounterWrite_starts s f h]; rfl
  · rw [requestCounterWrite_waits s f h]

@[simp] theorem requestCounterWrite_vsup (s : State) (f : Bool) :
    (s.requestCounterWrite f).vsup = s.vsup := by
  unfold State.requestCounterWrite; split <;> rfl
@[simp] theorem requestCounterWrite_pins (s : State) (f : Bool) :
    (s.requestCounterWrite f).pins = s.pins := by
  unfold State.requestCounterWrite; split <;> rfl
@[simp] theorem requestCounterWrite_port (s : State) (f : Bool) :
    (s.requestCounterWrite f).port = s.port := by
  unfold State.requestCounterWrite; split <;> rfl
@[simp] theorem requestCounterWrite_table (s : State) (f : Bool) :
    (s.requestCounterWrite f).table = s.table := by
  unfold State.requestCounterWrite; split <;> rfl
@[simp] theorem requestCounterWrite_clock (s : State) (f : Bool) :
    (s.requestCounterWrite f).clock = s.clock := by
  unfold State.requestCounterWrite; split <;> rfl
@[simp] theorem requestCounterWrite_chain (s : State) (f : Bool) :
    (s.requestCounterWrite f).chain = s.chain := by
  unfold State.requestCounterWrite; split <;> rfl
@[simp] theorem requestCounterWrite_sense (s : State) (f : Bool) :
    (s.requestCounterWrite f).sense = s.sense := by
  unfold State.requestCounterWrite; split <;> rfl
@[simp] theorem requestCounterWrite_seq (s : State) (f : Bool) :
    (s.requestCounterWrite f).seq = s.seq := by
  unfold State.requestCounterWrite; split <;> rfl
@[simp] theorem requestCounterWrite_power (s : State) (f : Bool) :
    (s.requestCounterWrite f).power = s.power := by
  unfold State.requestCounterWrite; split <;> rfl
@[simp] theorem requestCounterWrite_engine (s : State) (f : Bool) :
    (s.requestCounterWrite f).engine = s.engine := by
  unfold State.requestCounterWrite; split <;> rfl
@[simp] theorem requestCounterWrite_attention (s : State) (f : Bool) :
    (s.requestCounterWrite f).attention = s.attention := by
  unfold State.requestCounterWrite; split <;> rfl
@[simp] theorem requestCounterWrite_freeIndex (s : State) (f : Bool) :
    (s.requestCounterWrite f).freeIndex = s.freeIndex := by
  unfold State.requestCounterWrite; split <;> rfl
@[simp] theorem requestCounterWrite_pending (s : State) (f : Bool) :
    (s.requestCounterWrite f).pending = s.pending := by
  unfold State.requestCounterWrite; split <;> rfl

/-! ### Bank writes and the next holder (R152, R153) -/

@[simp] theorem startBankWrite_vsup (s : State) (r : BankRequest) :
    (s.startBankWrite r).vsup = s.vsup := by
  simp [State.startBankWrite]
@[simp] theorem startBankWrite_pins (s : State) (r : BankRequest) :
    (s.startBankWrite r).pins = s.pins := by
  simp [State.startBankWrite]
@[simp] theorem startBankWrite_port (s : State) (r : BankRequest) :
    (s.startBankWrite r).port = s.port := by
  simp [State.startBankWrite]
@[simp] theorem startBankWrite_table (s : State) (r : BankRequest) :
    (s.startBankWrite r).table = s.table := by
  simp [State.startBankWrite]
@[simp] theorem startBankWrite_clock (s : State) (r : BankRequest) :
    (s.startBankWrite r).clock = s.clock := by
  simp [State.startBankWrite]
@[simp] theorem startBankWrite_chain (s : State) (r : BankRequest) :
    (s.startBankWrite r).chain = s.chain := by
  simp [State.startBankWrite]
@[simp] theorem startBankWrite_sense (s : State) (r : BankRequest) :
    (s.startBankWrite r).sense = s.sense := by
  simp [State.startBankWrite]
@[simp] theorem startBankWrite_seq (s : State) (r : BankRequest) :
    (s.startBankWrite r).seq = s.seq := by
  simp [State.startBankWrite]
@[simp] theorem startBankWrite_power (s : State) (r : BankRequest) :
    (s.startBankWrite r).power = s.power := by
  simp [State.startBankWrite]
@[simp] theorem startBankWrite_engine (s : State) (r : BankRequest) :
    (s.startBankWrite r).engine = s.engine := by
  simp [State.startBankWrite]
@[simp] theorem startBankWrite_attention (s : State) (r : BankRequest) :
    (s.startBankWrite r).attention = s.attention := by
  simp [State.startBankWrite]
@[simp] theorem startBankWrite_freeIndex (s : State) (r : BankRequest) :
    (s.startBankWrite r).freeIndex = s.freeIndex := by
  simp [State.startBankWrite]
@[simp] theorem startBankWrite_pending (s : State) (r : BankRequest) :
    (s.startBankWrite r).pending = s.pending := by
  simp [State.startBankWrite]

@[simp] theorem requestBankWrite_vsup (s : State) (r : BankRequest) :
    (s.requestBankWrite r).vsup = s.vsup := by
  unfold State.requestBankWrite; split <;> simp
@[simp] theorem requestBankWrite_pins (s : State) (r : BankRequest) :
    (s.requestBankWrite r).pins = s.pins := by
  unfold State.requestBankWrite; split <;> simp
@[simp] theorem requestBankWrite_port (s : State) (r : BankRequest) :
    (s.requestBankWrite r).port = s.port := by
  unfold State.requestBankWrite; split <;> simp
@[simp] theorem requestBankWrite_table (s : State) (r : BankRequest) :
    (s.requestBankWrite r).table = s.table := by
  unfold State.requestBankWrite; split <;> simp
@[simp] theorem requestBankWrite_clock (s : State) (r : BankRequest) :
    (s.requestBankWrite r).clock = s.clock := by
  unfold State.requestBankWrite; split <;> simp
@[simp] theorem requestBankWrite_chain (s : State) (r : BankRequest) :
    (s.requestBankWrite r).chain = s.chain := by
  unfold State.requestBankWrite; split <;> simp
@[simp] theorem requestBankWrite_sense (s : State) (r : BankRequest) :
    (s.requestBankWrite r).sense = s.sense := by
  unfold State.requestBankWrite; split <;> simp
@[simp] theorem requestBankWrite_seq (s : State) (r : BankRequest) :
    (s.requestBankWrite r).seq = s.seq := by
  unfold State.requestBankWrite; split <;> simp
@[simp] theorem requestBankWrite_power (s : State) (r : BankRequest) :
    (s.requestBankWrite r).power = s.power := by
  unfold State.requestBankWrite; split <;> simp
@[simp] theorem requestBankWrite_engine (s : State) (r : BankRequest) :
    (s.requestBankWrite r).engine = s.engine := by
  unfold State.requestBankWrite; split <;> simp
@[simp] theorem requestBankWrite_attention (s : State) (r : BankRequest) :
    (s.requestBankWrite r).attention = s.attention := by
  unfold State.requestBankWrite; split <;> simp
@[simp] theorem requestBankWrite_freeIndex (s : State) (r : BankRequest) :
    (s.requestBankWrite r).freeIndex = s.freeIndex := by
  unfold State.requestBankWrite; split <;> simp
@[simp] theorem requestBankWrite_pending (s : State) (r : BankRequest) :
    (s.requestBankWrite r).pending = s.pending := by
  unfold State.requestBankWrite; split <;> simp

@[simp] theorem startNextWrite_vsup (s : State) :
    (s.startNextWrite).vsup = s.vsup := by
  unfold State.startNextWrite State.startCounterWrite; split <;> (try split) <;> (try split) <;> simp
@[simp] theorem startNextWrite_pins (s : State) :
    (s.startNextWrite).pins = s.pins := by
  unfold State.startNextWrite State.startCounterWrite; split <;> (try split) <;> (try split) <;> simp
@[simp] theorem startNextWrite_port (s : State) :
    (s.startNextWrite).port = s.port := by
  unfold State.startNextWrite State.startCounterWrite; split <;> (try split) <;> (try split) <;> simp
@[simp] theorem startNextWrite_table (s : State) :
    (s.startNextWrite).table = s.table := by
  unfold State.startNextWrite State.startCounterWrite; split <;> (try split) <;> (try split) <;> simp
@[simp] theorem startNextWrite_clock (s : State) :
    (s.startNextWrite).clock = s.clock := by
  unfold State.startNextWrite State.startCounterWrite; split <;> (try split) <;> (try split) <;> simp
@[simp] theorem startNextWrite_chain (s : State) :
    (s.startNextWrite).chain = s.chain := by
  unfold State.startNextWrite State.startCounterWrite; split <;> (try split) <;> (try split) <;> simp
@[simp] theorem startNextWrite_sense (s : State) :
    (s.startNextWrite).sense = s.sense := by
  unfold State.startNextWrite State.startCounterWrite; split <;> (try split) <;> (try split) <;> simp
@[simp] theorem startNextWrite_seq (s : State) :
    (s.startNextWrite).seq = s.seq := by
  unfold State.startNextWrite State.startCounterWrite; split <;> (try split) <;> (try split) <;> simp
@[simp] theorem startNextWrite_power (s : State) :
    (s.startNextWrite).power = s.power := by
  unfold State.startNextWrite State.startCounterWrite; split <;> (try split) <;> (try split) <;> simp
@[simp] theorem startNextWrite_engine (s : State) :
    (s.startNextWrite).engine = s.engine := by
  unfold State.startNextWrite State.startCounterWrite; split <;> (try split) <;> (try split) <;> simp
@[simp] theorem startNextWrite_attention (s : State) :
    (s.startNextWrite).attention = s.attention := by
  unfold State.startNextWrite State.startCounterWrite; split <;> (try split) <;> (try split) <;> simp
@[simp] theorem startNextWrite_freeIndex (s : State) :
    (s.startNextWrite).freeIndex = s.freeIndex := by
  unfold State.startNextWrite State.startCounterWrite; split <;> (try split) <;> (try split) <;> simp
@[simp] theorem startNextWrite_pending (s : State) :
    (s.startNextWrite).pending = s.pending := by
  unfold State.startNextWrite State.startCounterWrite; split <;> (try split) <;> (try split) <;> simp

@[simp] theorem continueBankWrite_vsup (s : State) (w : BankWrite) :
    (s.continueBankWrite w).vsup = s.vsup := by
  unfold State.continueBankWrite; split <;> simp
@[simp] theorem continueBankWrite_pins (s : State) (w : BankWrite) :
    (s.continueBankWrite w).pins = s.pins := by
  unfold State.continueBankWrite; split <;> simp
@[simp] theorem continueBankWrite_port (s : State) (w : BankWrite) :
    (s.continueBankWrite w).port = s.port := by
  unfold State.continueBankWrite; split <;> simp
@[simp] theorem continueBankWrite_table (s : State) (w : BankWrite) :
    (s.continueBankWrite w).table = s.table := by
  unfold State.continueBankWrite; split <;> simp
@[simp] theorem continueBankWrite_clock (s : State) (w : BankWrite) :
    (s.continueBankWrite w).clock = s.clock := by
  unfold State.continueBankWrite; split <;> simp
@[simp] theorem continueBankWrite_chain (s : State) (w : BankWrite) :
    (s.continueBankWrite w).chain = s.chain := by
  unfold State.continueBankWrite; split <;> simp
@[simp] theorem continueBankWrite_sense (s : State) (w : BankWrite) :
    (s.continueBankWrite w).sense = s.sense := by
  unfold State.continueBankWrite; split <;> simp
@[simp] theorem continueBankWrite_seq (s : State) (w : BankWrite) :
    (s.continueBankWrite w).seq = s.seq := by
  unfold State.continueBankWrite; split <;> simp
@[simp] theorem continueBankWrite_power (s : State) (w : BankWrite) :
    (s.continueBankWrite w).power = s.power := by
  unfold State.continueBankWrite; split <;> simp
@[simp] theorem continueBankWrite_engine (s : State) (w : BankWrite) :
    (s.continueBankWrite w).engine = s.engine := by
  unfold State.continueBankWrite; split <;> simp
@[simp] theorem continueBankWrite_attention (s : State) (w : BankWrite) :
    (s.continueBankWrite w).attention = s.attention := by
  unfold State.continueBankWrite; split <;> simp
@[simp] theorem continueBankWrite_freeIndex (s : State) (w : BankWrite) :
    (s.continueBankWrite w).freeIndex = s.freeIndex := by
  unfold State.continueBankWrite; split <;> simp
@[simp] theorem continueBankWrite_pending (s : State) (w : BankWrite) :
    (s.continueBankWrite w).pending = s.pending := by
  unfold State.continueBankWrite; split <;> simp

/-- With nothing behind it the end of a write leaves the Store without one. -/
theorem startNextWrite_none (s : State) (hc : s.store.counterPending = false) (hs : s.store.suspended = none)
    (hw : s.store.waiting = none) : s.startNextWrite = s.setInFlight .none := by
  simp [State.startNextWrite, hc, hs, hw]

/-- Without a held RESET the end of a write leaves the rest of the part alone. -/
theorem afterWrite_of_not_held (s : State) (h : s.power.reset ≠ .held) : s.afterWrite = s := by
  simp [State.afterWrite, h]

/-! ### The canonical form of the banks -/

theorem work_wf (w : BankWrite) (b : Bool) (m : Memory) (h : m.wf = true) : (w.work b m).wf = true := by
  unfold BankWrite.work
  split
  · exact h
  · exact writeBytes_wf _ _ _ h
  · exact h
  · split
    · exact writeBytes_wf _ _ _ h
    · exact h
  · exact writeBytes_wf _ _ _ (writeBytes_wf _ _ _ h)

/-- Both banks of a state are in canonical form. -/
theorem banks_wf_iff (s : State) : (∀ b, (s.bank b).wf = true) ↔ s.store.bank0.wf = true ∧ s.store.bank1.wf = true :=
  ⟨fun h => ⟨h .bank0, h .bank1⟩, fun h b => by cases b <;> simp [State.bank, h]⟩

theorem setBank_banks_wf (s : State) (b : BankId) (m : Memory) (h : ∀ c, (s.bank c).wf = true) (hm : m.wf = true)
    (c : BankId) : ((s.setBank b m).bank c).wf = true := by
  rw [bank_setBank]; split
  · exact hm
  · exact h c

theorem startBankWrite_banks_wf (s : State) (r : BankRequest) (h : ∀ c, (s.bank c).wf = true) (c : BankId) :
    ((s.startBankWrite r).bank c).wf = true := by
  unfold State.startBankWrite
  show (State.bank (State.setBankState _ _ (State.setBank _ _ s)) c).wf = true
  rw [bank_setBankState]
  exact setBank_banks_wf _ _ _ h (writeBytes_wf _ _ _ (h _)) c

/-- A state whose two bank memories are those of another keeps their form. -/
theorem banks_wf_of_memories (s t : State) (h0 : t.store.bank0 = s.store.bank0) (h1 : t.store.bank1 = s.store.bank1)
    (h : ∀ c, (s.bank c).wf = true) (c : BankId) : (t.bank c).wf = true := by
  cases c
  · show t.store.bank0.wf = true
    rw [h0]; exact h .bank0
  · show t.store.bank1.wf = true
    rw [h1]; exact h .bank1

theorem startNextWrite_banks_wf (s : State) (h : ∀ c, (s.bank c).wf = true) (c : BankId) :
    (s.startNextWrite.bank c).wf = true := by
  unfold State.startNextWrite
  split
  · exact banks_wf_of_memories s _ rfl rfl h c
  · split
    · exact banks_wf_of_memories s _ rfl rfl h c
    · split
      · apply startBankWrite_banks_wf
        exact fun b => banks_wf_of_memories s _ rfl rfl h b
      · exact banks_wf_of_memories s _ rfl rfl h c

/-- R161: a power loss leaves both banks in canonical form. -/
theorem cutWrites_banks_wf (s : State) (h : ∀ c, (s.bank c).wf = true) (c : BankId) : (s.cutWrites.bank c).wf = true := by
  have hn : ∀ b, (s.nextChoice.bank b).wf = true := banks_wf_of_memories s _ rfl rfl h
  unfold State.cutWrites
  split
  · exact h c
  · split
    · unfold State.cutRetraction
      simp only
      split
      · exact setBank_banks_wf _ _ _ hn (work_wf _ _ _ (hn _)) c
      · exact hn c
    · exact h c
  · rw [bank_setCounterSlot]; exact hn c
  · rw [bank_setKeyCopy]; exact hn c

end Sys2Proof.Laws
end

