-- ==== Sys2Proof/Laws/Lines.lean ====
section
/-! SUPPORT. What a line sample does: its events outside LOADING, what the Contactor Sequencer may write at an event, and
what a wake cause does by power state. -/

namespace Sys2Proof.Laws

open Sys2Proof.Machine

/-! ### Transitions of the Contactor Sequencer -/

/-- The sequencer alone has moved, with a counter write requested or CONTACTOR raised at most. -/
structure OnlySequences (s t : State) : Prop where
  vsup : t.vsup = s.vsup
  port : t.port = s.port
  table : t.table = s.table
  clock : t.clock = s.clock
  chain : t.chain = s.chain
  sense : t.sense = s.sense
  power : t.power = s.power
  engine : t.engine = s.engine
  freeIndex : t.freeIndex = s.freeIndex
  pending : t.pending = s.pending

theorem OnlySequences.refl (s : State) : OnlySequences s s := by constructor <;> rfl

theorem OnlySequences.trans {s t u : State} (h : OnlySequences s t) (k : OnlySequences t u) : OnlySequences s u where
  vsup := k.vsup.trans h.vsup
  port := k.port.trans h.port
  table := k.table.trans h.table
  clock := k.clock.trans h.clock
  chain := k.chain.trans h.chain
  sense := k.sense.trans h.sense
  power := k.power.trans h.power
  engine := k.engine.trans h.engine
  freeIndex := k.freeIndex.trans h.freeIndex
  pending := k.pending.trans h.pending

theorem setSeq_sequences (s : State) (q : Sequencer) : OnlySequences s { s with seq := q } := by constructor <;> rfl

theorem recorded_sequences (s : State) (q : Sequencer) : OnlySequences s ({ s with seq := q } : State).recorded := by
  constructor <;> rfl

theorem enterOpening_sequences (s : State) (c : Cause) : OnlySequences s (s.enterOpening c) := by
  unfold State.enterOpening State.countLoaded
  simp only
  split <;> exact setSeq_sequences s _

theorem enterOpen_eq (s : State) :
    s.enterOpen =
      ({ s with seq :=
        { s.seq with state := .opened, timer := none, context := none, lockoutCause := none } } : State).recorded :=
  requestCounterWrite_raise _

theorem enterLockout_eq (s : State) (c : LockoutCause) :
    s.enterLockout c =
      ({ s with seq :=
        { s.seq with state := .lockout, timer := none, context := none, lockoutCause := some c } } : State).recorded :=
  requestCounterWrite_raise _

theorem enterClosed_eq (s : State) :
    s.enterClosed =
      ({ s with seq :=
        { s.seq with state := .closed, coilInstant := s.sense.time, timer := none } } : State).recorded :=
  requestCounterWrite_raise _

theorem lockoutAtRest_sequences (s : State) (c : LockoutCause) (last : Cause) :
    OnlySequences s (s.lockoutAtRest c last) := by
  unfold State.lockoutAtRest
  rw [enterLockout_eq]
  exact recorded_sequences s _

/-- R123: in OPENING a main that opened before the coil instant keeps its last_open_time. -/
theorem recordOpen_before (s : State) (m : Main) (stamp : Word32) (c : OpeningContext) (h : s.seq.context = some c)
    (hb : s.openedBefore stamp c.deEnergizedAt = true) : s.recordOpen m stamp = s := by
  simp [State.recordOpen, h, hb]

theorem recordOpen_sequences (s : State) (m : Main) (stamp : Word32) : OnlySequences s (s.recordOpen m stamp) := by
  unfold State.recordOpen
  split
  · exact .refl s
  · split
    · exact .refl s
    · split <;> split
      · exact setSeq_sequences s _
      · exact .refl s
      · exact setSeq_sequences s _
      · exact .refl s

/-- A closing transition, or OPENING in its place (R107). -/
theorem unlessInhibited_sequences (s : State) (q : Sequencer) (go : State → State)
    (h : ∀ x, OnlySequences x (go x)) : OnlySequences s (({ s with seq := q } : State).unlessInhibited go) := by
  unfold State.unlessInhibited
  split
  · obtain ⟨a, b, c, d, e, f, g, i, j, k⟩ := h { s with seq := q }
    exact ⟨a, b, c, d, e, f, g, i, j, k⟩
  · obtain ⟨a, b, c, d, e, f, g, i, j, k⟩ := enterOpening_sequences { s with seq := q } (.inhibit _)
    exact ⟨a, b, c, d, e, f, g, i, j, k⟩

theorem auxEdge_sequences (s : State) (m : Main) (closed : Bool) (stamp : Word32) :
    OnlySequences s (s.auxEdge m closed stamp) := by
  unfold State.auxEdge
  split
  · exact lockoutAtRest_sequences ..
  · exact .refl s
  · split
    · exact unlessInhibited_sequences s _ _ (fun x => setSeq_sequences x _)
    · exact enterOpening_sequences ..
  · exact enterOpening_sequences ..
  · exact .refl s
  · exact enterOpening_sequences ..
  · exact enterOpening_sequences ..
  · exact .refl s
  · exact .refl s
  · split
    · exact unlessInhibited_sequences s _ _ (fun x => by rw [enterClosed_eq]; exact recorded_sequences x _)
    · exact enterOpening_sequences ..
  · exact enterOpening_sequences ..
  · exact .refl s
  · exact .refl s
  · exact enterOpening_sequences ..
  · exact .refl s
  · exact enterOpening_sequences ..
  · exact .refl s
  · exact recordOpen_sequences ..
  · exact .refl s
  · exact .refl s

theorem auxChange_sequences (s : State) (m : Main) (x : Option (Bool × Word32)) : OnlySequences s (s.auxChange m x) := by
  unfold State.auxChange
  split
  · exact auxEdge_sequences ..
  · exact .refl s

theorem crashAtSequencer_sequences (s : State) : OnlySequences s s.crashAtSequencer := by
  unfold State.crashAtSequencer
  split
  · exact lockoutAtRest_sequences ..
  · exact enterOpening_sequences ..
  · exact enterOpening_sequences ..
  · exact enterOpening_sequences ..
  · exact enterOpening_sequences ..
  · exact enterOpening_sequences ..
  · exact setSeq_sequences s _
  · exact .refl s

/-! ### Wake causes (R134, R138, R142, R145) -/

/-- In LOADING, DISCOVERING and ACTIVE a wake cause does nothing. -/
theorem gather_awake (s : State) (x : WakeName)
    (h : s.power.state = .loading ∨ s.power.state = .discovering ∨ s.power.state = .active) : s.gather x = s := by
  unfold State.gather
  rcases h with h | h | h <;> rw [h]

/-- In SETTLING, SLEEP_FRAME and WAKING it joins the wake set. -/
theorem gather_gathers (s : State) (x : WakeName)
    (h : s.power.state = .settling ∨ s.power.state = .sleepFrame ∨ s.power.state = .waking) :
    s.gather x = s.addWake x := by
  unfold State.gather
  rcases h with h | h | h <;> rw [h]

/-- In DEEP_SLEEP it wakes the part. -/
theorem gather_wakes (s : State) (x : WakeName) (h : s.power.state = .deepSleep) :
    s.gather x = (s.addWake x).enterWaking := by
  unfold State.gather
  rw [h]

/-- A wake cause leaves these fields as they are, in every power state. -/
theorem gather_keeps (s : State) (x : WakeName) :
    (s.gather x).engine = s.engine ∧ (s.gather x).sense = s.sense ∧ (s.gather x).vsup = s.vsup ∧
      (s.gather x).attention = s.attention ∧ (s.gather x).store = s.store ∧ (s.gather x).seq = s.seq ∧
      (s.gather x).table = s.table := by
  unfold State.gather
  split <;> exact ⟨rfl, rfl, rfl, rfl, rfl, rfl, rfl⟩

/-! ### Line samples (R94 to R100) -/

/-- What an event keeps, it keeps whether or not the line changed to its high level. -/
theorem onHigh_keeps (P : State → Prop) (x : Option (Bool × Word32)) (f : State → State) (s : State) (h : P s)
    (hf : ∀ t, P t → P (f t)) : P (s.onHigh x f) := by
  unfold State.onHigh
  split
  · exact hf _ h
  · exact h
  · exact h

/-- R100, R180: what a tamper event leaves in the Update Engine and the Attention Unit. -/
theorem tamperEvent_latches (s : State) :
    s.tamperEvent.engine.tamperLatch = true ∧ s.tamperEvent.attention.set.tamper = true ∧
      s.tamperEvent.engine.tamperCount = satIncr s.engine.tamperCount ∧ s.tamperEvent.sense = s.sense := by
  obtain ⟨h1, h2, _, h4, _⟩ := gather_keeps s.tamperAtEngine .tamper
  unfold State.tamperEvent
  rw [h1, h2, h4]
  unfold State.tamperAtEngine State.endTampered
  simp only
  split <;> simp [State.endTransaction, State.raise, requestCounterWrite_eq, Causes.put]

/-- Outside LOADING a line sample moves the stages and sends the events of what changed. -/
theorem lineSample_events (l : LineLevels) (s : State) (hv : s.vsup = true) (hp : s.power.state ≠ .loading) :
    event (fun t => t.sampleLines l) s =
      .next ((({ s with sense := s.sense.sampled l } : State).lineEvents
        (lineChanges s.sense (s.sense.sampled l))).drive) := by
  unfold event
  rw [if_pos hv]
  unfold State.sampleLines
  simp only [hp, if_false]

@[simp] theorem lineEvents_none (s : State) : s.lineEvents .none = s := rfl

@[simp] theorem lineEvents_edge (s : State) (m : Main) (closed : Bool) (stamp : Word32) :
    s.lineEvents (.edge m closed stamp) = s.auxEdge m closed stamp := by
  cases m <;> rfl

end Sys2Proof.Laws
end

