-- ==== Sys2Proof/Laws/Port.lean ====
section
/-! SUPPORT. The path of a request, said once: what `event` and `request` answer, whatever the owner is. -/

namespace Sys2Proof.Laws

open Sys2Proof.Machine

/-- A supplied part takes the effect and drives its pins. -/
theorem event_of_supply (f : State → State) (s : State) (h : s.vsup = true) : event f s = .next (f s).drive := by
  simp [event, h]

theorem event_without_supply (f : State → State) (s : State) (h : s.vsup = false) : event f s = .next s := by
  simp [event, h]

/-- The state in which the owner of a request meets it: the write transaction has ended. -/
def received (n : Nat) (s : State) : State :=
  { s with port :=
    { slot :=
        if s.port.writeTx = .none ∧ s.power.state ≠ .deepSleep ∧ s.power.state ≠ .sleepFrame then .empty
        else s.port.slot
      writeTx := .none, hsdo := List.replicate (4 + n) 0xFF } }

/-- What a write transaction that arrives does around its effect. -/
theorem endWrite_of_arrives (n : Nat) (act : State → State) (s : State) (h : s.arrives) :
    s.endWrite (4 + n) act = act (received n s) := by
  obtain ⟨_, ⟨h, hr⟩ | ⟨h, hr⟩⟩ := h
  · simp [State.endWrite, State.ensureBegun, State.endDiscarded, h, hr, received, State.setWriteTx, State.shiftOut,
      idleBytes]
  · have hb : s.ensureBegun = ((s.shiftOut (idleBytes 1)).emptySlotAwake).setWriteTx .begun := by
      simp [State.ensureBegun, h, State.beginWrite, hr]
    have hd : (((s.shiftOut (idleBytes 1)).emptySlotAwake).setWriteTx .begun).endDiscarded = false := by
      cases hp : s.power.state <;>
        simp [State.endDiscarded, State.emptySlotAwake, State.shiftOut, State.setSlot, State.setWriteTx, hp, hr]
    simp only [State.endWrite, hb, hd, Bool.false_eq_true, if_false]
    congr 1
    cases hp : s.power.state <;>
      simp [received, h, State.emptySlotAwake, State.shiftOut, State.setSlot, State.setWriteTx, idleBytes, hp]

/-- A write transaction that a RESET discards at its end: its beginning began the RESET, or the RESET is held. -/
theorem endWrite_of_discarded (n : Nat) (act : State → State) (s : State)
    (h : s.port.writeTx = .discarded ∨ (s.port.writeTx = .begun ∧ s.power.reset = .held)) :
    s.endWrite (4 + n) act = s.transacted n := by
  obtain h | ⟨h, hr⟩ := h
  · simp [State.endWrite, State.ensureBegun, State.endDiscarded, h, State.transacted, State.setWriteTx, State.shiftOut,
      idleBytes]
  · simp [State.endWrite, State.ensureBegun, State.endDiscarded, h, hr, State.transacted, State.setWriteTx,
      State.shiftOut, idleBytes]

/-- A write transaction that a command brings whole while a RESET is held. -/
theorem endWrite_of_held (n : Nat) (act : State → State) (s : State) (h : s.port.writeTx = .none)
    (hr : s.power.reset = .held) : s.endWrite (4 + n) act = (s.transacted n).setSlot .empty := by
  simp [State.endWrite, State.ensureBegun, State.endDiscarded, h, State.beginWrite, hr, State.transacted, State.setWriteTx,
    State.shiftOut, State.setSlot, idleBytes]

/-- R147, R189: an entry to LOADING at a RESET leaves the write transaction in progress as it finds it. -/
theorem enterLoading_reset_writeTx (s : State) : (s.enterLoading .reset).port.writeTx = s.port.writeTx := rfl

/-- After the entry to LOADING a write transaction that was begun arrives. -/
theorem arrives_of_enterLoading_reset (s : State) (hv : s.vsup = true) (h : s.port.writeTx = .begun) :
    (s.enterLoading .reset).arrives := ⟨hv, Or.inl ⟨h, by simp [State.enterLoading, Power.started]⟩⟩

@[simp] theorem received_vsup (n : Nat) (s : State) : (received n s).vsup = s.vsup := rfl
@[simp] theorem received_pins (n : Nat) (s : State) : (received n s).pins = s.pins := rfl
@[simp] theorem received_table (n : Nat) (s : State) : (received n s).table = s.table := rfl
@[simp] theorem received_clock (n : Nat) (s : State) : (received n s).clock = s.clock := rfl
@[simp] theorem received_chain (n : Nat) (s : State) : (received n s).chain = s.chain := rfl
@[simp] theorem received_sense (n : Nat) (s : State) : (received n s).sense = s.sense := rfl
@[simp] theorem received_seq (n : Nat) (s : State) : (received n s).seq = s.seq := rfl
@[simp] theorem received_power (n : Nat) (s : State) : (received n s).power = s.power := rfl
@[simp] theorem received_store (n : Nat) (s : State) : (received n s).store = s.store := rfl
@[simp] theorem received_engine (n : Nat) (s : State) : (received n s).engine = s.engine := rfl
@[simp] theorem received_attention (n : Nat) (s : State) : (received n s).attention = s.attention := rfl
@[simp] theorem received_freeIndex (n : Nat) (s : State) : (received n s).freeIndex = s.freeIndex := rfl
@[simp] theorem received_pending (n : Nat) (s : State) : (received n s).pending = s.pending := rfl
@[simp] theorem received_port_writeTx (n : Nat) (s : State) : (received n s).port.writeTx = .none := rfl
@[simp] theorem received_point (n : Nat) (s : State) (id : Nat) : (received n s).point id = s.point id := rfl
@[simp] theorem received_storeBusy (n : Nat) (s : State) : (received n s).storeBusy = s.storeBusy := rfl
@[simp] theorem received_readable (n : Nat) (s : State) (a : Nat) : (received n s).readable a = s.readable a := rfl
@[simp] theorem received_staged (n : Nat) (s : State) (id : Nat) : (received n s).staged id = s.staged id := rfl
@[simp] theorem received_tailFree (n : Nat) (s : State) : (received n s).tailFree = s.tailFree := rfl
@[simp] theorem received_capture (n : Nat) (s : State) (c : Converter) : (received n s).capture? c = s.capture? c := by
  cases c <;> rfl
@[simp] theorem received_currentBreakable (n : Nat) (s : State) :
    (received n s).currentBreakable = s.currentBreakable := rfl

/-- The sequencer and the arbiter do not see the port. -/
theorem received_enterOpening (n : Nat) (s : State) (c : Cause) :
    (received n s).enterOpening c = { s.enterOpening c with port := (received n s).port } := by
  have h : (received n s).opensLoaded = s.opensLoaded := rfl
  unfold State.enterOpening
  rw [h]
  cases s.opensLoaded <;> rfl

theorem received_requestCounterWrite (n : Nat) (s : State) (f : Bool) :
    (received n s).requestCounterWrite f = { s.requestCounterWrite f with port := (received n s).port } := by
  unfold State.requestCounterWrite
  rw [received_store]
  cases s.store.inFlight <;> rfl

/-- In sleep the answer slot stands, so the owner meets the transacted state. -/
theorem received_of_asleep (n : Nat) (s : State) (h : s.power.state = .deepSleep ∨ s.power.state = .sleepFrame) :
    received n s = s.transacted n := by
  obtain h | h := h <;> simp [received, State.transacted, h]

/-- An answer overwrites the whole port, so the port of the state it is placed on does not show. -/
theorem answered_of_port (code : Byte) (n : Nat) (a : AnswerCode) (reply : List Byte) (s : State) (p : Port) :
    State.answered code n a reply { s with port := p } = s.answered code n a reply := rfl

theorem placeAnswer_received (code : Byte) (n : Nat) (a : AnswerCode) (reply : List Byte) (s : State) :
    ((received n s).placeAnswer code a reply).drive = s.answered code n a reply := rfl

/-- R187: a request handed to its owner with a body of the right length. -/
theorem request_handed (code : Byte) (body : List Byte) (owner : State → State × Reply) (s : State)
    (h : s.hands code) :
    request code body true owner s =
      .next ((owner (received body.length s)).1.placeReply code (owner (received body.length s)).2).drive := by
  obtain ⟨ha, hg⟩ := h
  rw [request, event_of_supply _ _ ha.1, endWrite_of_arrives _ _ _ ha]
  simp [takeRequest, received_power, hg]

/-- A request whose owner answers at once, with `u` the state the owner leaves but for the port. -/
theorem request_answers (code : Byte) (body : List Byte) (owner : State → State × Reply) (s u : State) (a : AnswerCode)
    (reply : List Byte) (h : s.hands code)
    (ho : owner (received body.length s) = ({ u with port := (received body.length s).port }, .now a reply)) :
    request code body true owner s = .next (u.answered code body.length a reply) := by
  rw [request_handed _ _ _ _ h, ho]; rfl

/-- A refusal changes nothing but the answer slot. -/
theorem request_refuses (code : Byte) (body : List Byte) (owner : State → State × Reply) (s : State) (a : AnswerCode)
    (h : s.hands code) (ho : owner (received body.length s) = refuse a (received body.length s)) :
    request code body true owner s = .next (s.answered code body.length a []) := by
  rw [request_handed _ _ _ _ h, ho]; rfl

/-- R187: a request handed with a body of another length. -/
theorem request_badLength (code : Byte) (body : List Byte) (owner : State → State × Reply) (s : State)
    (h : s.hands code) : request code body false owner s = .next (s.answered code body.length .badArgument []) := by
  obtain ⟨ha, hg⟩ := h
  rw [request, event_of_supply _ _ ha.1, endWrite_of_arrives _ _ _ ha]
  simp [takeRequest, received_power, hg, placeAnswer_received]

/-- R130: a request that the power state answers STARTING. -/
theorem request_starting (code : Byte) (body : List Byte) (ok : Bool) (owner : State → State × Reply) (s : State)
    (ha : s.arrives) (hg : gate s.power.state code = .starting) :
    request code body ok owner s = .next (s.answered code body.length .starting []) := by
  rw [request, event_of_supply _ _ ha.1, endWrite_of_arrives _ _ _ ha]
  simp [takeRequest, received_power, hg, placeAnswer_received]

/-- R130, R143: a request that sleep ignores. -/
theorem request_ignored (code : Byte) (body : List Byte) (ok : Bool) (owner : State → State × Reply) (s : State)
    (ha : s.arrives) (hg : gate s.power.state code = .ignored) :
    request code body ok owner s = .next (s.transacted body.length).drive := by
  have hs : s.power.state = .deepSleep ∨ s.power.state = .sleepFrame := by
    cases hp : s.power.state <;> simp [gate, hp] at hg ⊢ <;> split at hg <;> simp at hg
  rw [request, event_of_supply _ _ ha.1, endWrite_of_arrives _ _ _ ha, received_of_asleep _ _ hs]
  have : gate (s.transacted body.length).power.state code = .ignored := hg
  simp [takeRequest, this]

/-- R147, R148, R195: a request that a RESET discards. -/
theorem request_discarded (code : Byte) (body : List Byte) (ok : Bool) (owner : State → State × Reply) (s : State)
    (hv : s.vsup = true) (hw : s.port.writeTx = .discarded ∨ (s.port.writeTx = .begun ∧ s.power.reset = .held)) :
    request code body ok owner s = .next (s.transacted body.length).drive := by
  rw [request, event_of_supply _ _ hv, endWrite_of_discarded _ _ _ hw]

/-- R148, R195: a request brought whole while a RESET is held. -/
theorem request_held (code : Byte) (body : List Byte) (ok : Bool) (owner : State → State × Reply) (s : State)
    (hv : s.vsup = true) (hw : s.port.writeTx = .none) (hr : s.power.reset = .held) :
    request code body ok owner s = .next ((s.transacted body.length).setSlot .empty).drive := by
  rw [request, event_of_supply _ _ hv, endWrite_of_held _ _ _ hw hr]

/-- Every outcome of a request is a next state. -/
theorem request_next (code : Byte) (body : List Byte) (ok : Bool) (owner : State → State × Reply) (s : State) :
    ∃ t, request code body ok owner s = .next t := by
  unfold request event
  split
  · exact ⟨_, rfl⟩
  · exact ⟨_, rfl⟩

end Sys2Proof.Laws
end

