-- ==== Sys2Proof/Laws/Waking.lean ====
section
/-! SUPPORT. The wake transition of the points (R25), the inhibit set after every record is brought up to date (R39), and what
the start of a slot leaves of the points outside it (R57). -/

namespace Sys2Proof.Laws

open Sys2Proof.Machine

/-! ### The inhibit set (R39) -/

theorem mem_refreshInhibit (s : State) (id x : Nat) :
    x ∈ (s.refreshInhibit id).table.inhibitSet ↔
      if x = id then (s.point id).inhibits = true else x ∈ s.table.inhibitSet := by
  unfold State.refreshInhibit
  split
  · rename_i h1
    split
    · rename_i h2
      by_cases hx : x = id
      · subst hx
        rw [if_pos rfl]
        exact ⟨fun _ => h1, fun _ => by simpa using h2⟩
      · rw [if_neg hx]
    · show x ∈ insertId id _ ↔ _
      rw [mem_insertId]
      by_cases hx : x = id <;> simp [hx, h1]
  · rename_i h1
    show x ∈ removeId id _ ↔ _
    rw [mem_removeId]
    by_cases hx : x = id <;> simp [hx, h1]

/-- Records brought up to date one after another keep the table. -/
theorem refreshInhibits_points (ids : List Nat) (s : State) :
    (ids.foldl (fun t id => t.refreshInhibit id) s).table.points = s.table.points := by
  induction ids generalizing s with
  | nil => rfl
  | cons a rest ih => exact (ih _).trans (refreshInhibit_points s a)

theorem point_refreshAllInhibits (s : State) (x : Nat) : s.refreshAllInhibits.point x = s.point x :=
  point_of_table _ _ (refreshInhibits_points tableIds s) x

theorem mem_refreshInhibits (ids : List Nat) (s : State) (hn : ids.Nodup) (x : Nat) :
    x ∈ (ids.foldl (fun t id => t.refreshInhibit id) s).table.inhibitSet ↔
      if x ∈ ids then (s.point x).inhibits = true else x ∈ s.table.inhibitSet := by
  induction ids generalizing s with
  | nil => simp
  | cons a rest ih =>
    obtain ⟨ha, hr⟩ := List.nodup_cons.mp hn
    simp only [List.foldl_cons, List.mem_cons]
    rw [ih _ hr, mem_refreshInhibit, point_of_table _ _ (refreshInhibit_points s a)]
    by_cases h : x = a
    · subst h; simp [ha]
    · simp [h]

/-- R39: after every record is brought up to date the inhibit set holds exactly the points that belong in it. -/
theorem mem_refreshAllInhibits (s : State) (x : Nat) (hx : x < 384) :
    x ∈ s.refreshAllInhibits.table.inhibitSet ↔ (s.point x).inhibits = true := by
  have h := mem_refreshInhibits tableIds s tableIds_nodup x
  rw [if_pos ((mem_tableIds x).2 hx)] at h
  exact h

/-! ### The wake transition (R25) -/

/-- R25: what the wake transition makes of a record. -/
def woken : Point → Point
  | .live d l p => .live d (if d.sleepDivider.isNone && l.condition.losesAtWake then l.woken else l) p
  | .vacant => .vacant
  | .enlisting d => .enlisting d

theorem point_wakePoint (s : State) (id x : Nat) :
    (s.wakePoint id).point x = if x = id then woken (s.point id) else s.point x := by
  unfold State.wakePoint
  split <;> rename_i h
  · have hl := lt_of_point_ne_vacant s id (by rw [h]; simp)
    split <;> rename_i hw
    · rw [point_setPoint]
      simp only [hl, and_true, h, woken, hw, if_true]
    · by_cases hx : x = id
      · subst hx
        rw [if_pos rfl, h]
        simp only [woken, hw]
        rfl
      · rw [if_neg hx]
  · by_cases hx : x = id <;> simp [hx, h, woken]
  · by_cases hx : x = id <;> simp [hx, h, woken]

/-- The wake transition differs from `s` in the Point Table alone. -/
theorem wakePoints_rest (ids : List Nat) (s : State) :
    ids.foldl (fun t id => t.wakePoint id) s =
      { s with table := (ids.foldl (fun t id => t.wakePoint id) s).table } := by
  induction ids generalizing s with
  | nil => rfl
  | cons a rest ih =>
    have h : s.wakePoint a = { s with table := (s.wakePoint a).table } := by
      unfold State.wakePoint
      split
      · split <;> rfl
      · rfl
      · rfl
    simp only [List.foldl_cons]
    rw [ih, h]

/-- Everything the wake transition does outside a sleep frame: each record as `woken` says, the inhibit set exact, the
notices and the rest of the state that judgement keeps. -/
theorem wakeTransition_wakes (s : State) (h : s.power.state ≠ .sleepFrame) :
    (∀ x, x < 384 → s.wakeTransition.point x = woken (s.point x)) ∧
      (∀ x, x < 384 → (x ∈ s.wakeTransition.table.inhibitSet ↔ (woken (s.point x)).inhibits = true)) ∧
      s.wakeTransition.power = s.power ∧ s.wakeTransition.clock = s.clock ∧ s.wakeTransition.engine = s.engine ∧
      s.wakeTransition.store = s.store ∧ s.wakeTransition.seq = s.seq ∧ s.wakeTransition.vsup = s.vsup := by
  have hp : ∀ x, x < 384 → (tableIds.foldl (fun t id => t.wakePoint id) s).point x = woken (s.point x) := by
    intro x hx
    have hf := point_foldl (fun t id => t.wakePoint id) (fun _ _ p => woken p) (fun _ => True)
      (fun t i y _ => point_wakePoint t i y) (fun _ _ _ => trivial) (fun _ _ _ _ _ => rfl) tableIds s trivial
      tableIds_nodup x
    rw [if_pos ((mem_tableIds x).2 hx)] at hf
    exact hf
  have hr := wakePoints_rest tableIds s
  have ht : s.wakeTransition = (tableIds.foldl (fun t id => t.wakePoint id) s).refreshAllInhibits := by
    unfold State.wakeTransition
    exact Eq.refl _
  rw [ht]
  generalize tableIds.foldl (fun t id => t.wakePoint id) s = u at hp hr
  have j := refreshAllInhibits_judges u
  have hu : u.power = s.power := by rw [hr]
  refine ⟨fun x hx => by rw [point_refreshAllInhibits, hp x hx],
    fun x hx => by rw [mem_refreshAllInhibits u x hx, hp x hx],
    (j.awake (by rw [hu]; exact h)).trans hu, j.clock.trans (by rw [hr]), j.engine.trans (by rw [hr]),
    j.store.trans (by rw [hr]), j.seq.trans (by rw [hr]), j.vsup.trans (by rw [hr])⟩

/-- The end of WAKING, with the state after the wake transition named. -/
theorem finishWaking_eq (s t : State) (h : s.wakeTransition = t) :
    s.finishWaking =
      ((((t.writeRecord
        { causes := t.power.wakeSet, firstPoint := t.power.firstPoint, sleepFrames := t.power.sleepFrame,
          entryFrame := t.power.entryFrame }).raise .power).setPower .active)).frameStart := by
  unfold State.finishWaking
  rw [h]
  rfl

/-! ### What a slot start leaves of the other points (R57) -/

theorem miss_elsewhere (s : State) (id x : Nat) (h : x ≠ id) :
    x ∈ (s.miss id).table.inhibitSet ↔ x ∈ s.table.inhibitSet := by
  unfold State.miss
  split
  · unfold State.setLive
    simp only
    split
    · rfl
    · exact (conditionChanged_leads _ id _ _).others x h
  · rfl
  · rfl

theorem missAll_elsewhere (ids : List Nat) (s : State) (x : Nat) (h : x ∉ ids) :
    (s.missAll ids).point x = s.point x ∧ (x ∈ (s.missAll ids).table.inhibitSet ↔ x ∈ s.table.inhibitSet) := by
  unfold State.missAll
  induction ids generalizing s with
  | nil => exact ⟨rfl, Iff.rfl⟩
  | cons a rest ih =>
    simp only [List.mem_cons, not_or] at h
    obtain ⟨hp, hi⟩ := ih (s.miss a) h.2
    exact ⟨hp.trans (by rw [point_miss, if_neg h.1]), hi.trans (miss_elsewhere s a x h.1)⟩

theorem captureRound_rest (ids : List Nat) (s : State) :
    (s.captureRound ids).table = s.table ∧ (s.captureRound ids).clock = s.clock ∧
      (s.captureRound ids).chain = s.chain ∧ (s.captureRound ids).power = s.power := by
  have h : ∀ (c : Converter) (t : State), (t.captureFor ids c).table = t.table ∧ (t.captureFor ids c).clock = t.clock ∧
      (t.captureFor ids c).chain = t.chain ∧ (t.captureFor ids c).power = t.power := by
    intro c t
    unfold State.captureFor
    split
    · exact ⟨rfl, rfl, rfl, rfl⟩
    · cases c <;> exact ⟨rfl, rfl, rfl, rfl⟩
  obtain ⟨a1, a2, a3, a4⟩ := h .shuntCurrent s
  obtain ⟨b1, b2, b3, b4⟩ := h .packVoltage (s.captureFor ids .shuntCurrent)
  obtain ⟨c1, c2, c3, c4⟩ := h .busVoltage ((s.captureFor ids .shuntCurrent).captureFor ids .packVoltage)
  unfold State.captureRound
  exact ⟨c1.trans (b1.trans a1), c2.trans (b2.trans a2), c3.trans (b3.trans a3), c4.trans (b4.trans a4)⟩

/-- The start of a slot that is not the last leaves every point outside it, and its place in the inhibit set. -/
theorem startSlot_elsewhere (s : State) (k x : Nat) (hk : k + 1 < s.clock.active.slotCount) (hx : x ∉ s.slotPoints k) :
    (s.startSlot k).point x = s.point x ∧ (x ∈ (s.startSlot k).table.inhibitSet ↔ x ∈ s.table.inhibitSet) := by
  unfold State.startSlot
  simp only
  generalize s.slotPoints k = ids at hx
  have hc : x ∉ ids.filter (fun id => (s.readEntry? id).isSome) := fun h => hx (List.mem_filter.1 h).1
  generalize ids.filter (fun id => (s.readEntry? id).isSome) = chainIds at hc
  obtain ⟨h1, h2, _, _⟩ := captureRound_rest ids (s.setPhase (.slot k true))
  have ht : ((s.setPhase (.slot k true)).captureRound ids).table = s.table := h1
  have ha : ((s.setPhase (.slot k true)).captureRound ids).clock.active = s.clock.active := by rw [h2]; rfl
  generalize (s.setPhase (.slot k true)).captureRound ids = t at ht ha
  have miss : ∀ l, x ∉ l → (t.missAll l).point x = s.point x ∧
      (x ∈ (t.missAll l).table.inhibitSet ↔ x ∈ s.table.inhibitSet) ∧
      (t.missAll l).clock.active = s.clock.active := by
    intro l hl
    obtain ⟨m1, m2⟩ := missAll_elsewhere l t x hl
    exact ⟨m1.trans (point_of_table s t (by rw [ht]) x), by rw [m2, ht], by rw [(missAll_judges t l).clock, ha]⟩
  have hu : ∀ u, u = (if t.clock.given then t.missAll chainIds else t.beginRound false chainIds t.readable) →
      u.point x = s.point x ∧ (x ∈ u.table.inhibitSet ↔ x ∈ s.table.inhibitSet) ∧
        u.clock.active = s.clock.active := by
    intro u h
    rw [h]
    split
    · exact miss chainIds hc
    · unfold State.beginRound
      simp only
      split <;> exact miss _ (fun h => hc (List.mem_filter.1 h).1)
  generalize (if t.clock.given then t.missAll chainIds else t.beginRound false chainIds t.readable) = u at hu
  obtain ⟨u1, u2, u3⟩ := hu u rfl
  have hr : (if u.chain.round.isSome then u else u.roundEnded k).table = u.table := by
    split
    · rfl
    · unfold State.roundEnded
      rw [if_neg (by rw [u3]; omega)]
      rfl
  exact ⟨(point_of_table u _ (by rw [hr]) x).trans u1, by rw [hr]; exact u2⟩

/-- A wake set is empty exactly when it is `none`. -/
theorem wakeCauses_isEmpty (w : WakeCauses) : w.isEmpty = true ↔ w = .none := by
  cases w
  simp [WakeCauses.isEmpty, WakeCauses.none, and_assoc]

end Sys2Proof.Laws
end

