-- ==== Sys2Proof/Tests/Slice0.lean ====
section
/-! SUPPORT. The model's own tests: the checks of WellFormed, the check values and digests of the manual's standards, words
written out from the layouts, one step here and there, and for every statement with hypotheses a state that meets them. -/

namespace Sys2Proof.Tests

open Sys2Proof Sys2Proof.Machine Sys2Proof.Laws

/-! ## Terms that the well-formedness check refuses, and one it takes -/

theorem test_wellFormed_takes : (Instr.spot (le16 7)).wellFormed = true := by decide
theorem test_wellFormed_longBody : (Instr.enlist (List.replicate 251 0)).wellFormed = false := by decide +kernel
theorem test_wellFormed_emptyRead : (Instr.readTransaction 0).wellFormed = false := by decide
theorem test_wellFormed_goodFrame : (Instr.frameError (requestFrame 0x60 [])).wellFormed = false := by decide +kernel
theorem test_wellFormed_readCode : (Instr.frameError [0, 1]).wellFormed = false := by decide
theorem test_wellFormed_emptyFrame : (Instr.frameError []).wellFormed = false := by decide
theorem test_wellFormed_knownCode : (Instr.unknownRequest 0x60 []).wellFormed = false := by decide
theorem test_wellFormed_zeroCode : (Instr.unknownRequest 0 []).wellFormed = false := by decide
theorem test_wellFormed_longUnknown : (Instr.unknownRequest 0x99 (List.replicate 251 0)).wellFormed = false := by
  decide +kernel
theorem test_wellFormed_reading : (Instr.captureDelivery .busVoltage 12288).wellFormed = false := by decide
theorem test_wellFormed_emptyMessage : (Instr.blockReply []).wellFormed = false := by decide
theorem test_wellFormed_emptyEnum : (Instr.enumReply []).wellFormed = false := by decide

/-! ## Check values and digests: the nine digits of the usual check values, and the two short messages of the standard -/

def nineDigits : List Byte := [0x31, 0x32, 0x33, 0x34, 0x35, 0x36, 0x37, 0x38, 0x39]

theorem test_crc8 : crc8 nineDigits = 0x20 := by decide +kernel
theorem test_crc16 : crc16 nineDigits = 0x29B1 := by decide +kernel
theorem test_crc32 : crc32 nineDigits = 0xFC891918 := by decide +kernel
theorem test_sha256_abc : (sha256 [0x61, 0x62, 0x63]).take 8 = [0xBA, 0x78, 0x16, 0xBF, 0x8F, 0x01, 0xCF, 0xEA] := by
  decide +kernel
theorem test_sha256_empty : (sha256 []).take 8 = [0xE3, 0xB0, 0xC4, 0x42, 0x98, 0xFC, 0x1C, 0x14] := by decide +kernel
/-- The second test case of the HMAC standard: key "Jefe", message "what do ya want for nothing?". -/
theorem test_hmac :
    (hmacSha256 [0x4A, 0x65, 0x66, 0x65]
      [0x77, 0x68, 0x61, 0x74, 0x20, 0x64, 0x6F, 0x20, 0x79, 0x61, 0x20, 0x77, 0x61, 0x6E, 0x74, 0x20, 0x66, 0x6F, 0x72,
        0x20, 0x6E, 0x6F, 0x74, 0x68, 0x69, 0x6E, 0x67, 0x3F]).take 8 =
      [0x5B, 0xDC, 0xC1, 0x46, 0xBF, 0x60, 0x75, 0x4E] := by
  decide +kernel

theorem sha256_length (m : List Byte) : (sha256 m).length = 32 := by
  simp [sha256, bigEndian]

/-! ## Transactions written out byte by byte -/

theorem test_decode_read : decodeTransaction [0, 0, 0] = some (.readTransaction 3) := by decide
theorem test_decode_lookup : decodeTransaction (requestFrame 0x11 [0x07, 0x01]) = some (.lookup [0x07, 0x01]) := by
  decide +kernel
theorem test_decode_unknown : decodeTransaction (requestFrame 0x15 []) = some (.unknownRequest 0x15 []) := by
  decide +kernel
theorem test_decode_badCrc : decodeTransaction [0x60, 0, 0, 0] = some (.frameError [0x60, 0, 0, 0]) := by decide +kernel
theorem test_encode_retire : (Instr.retire [0x05, 0x00]).encode = some (requestFrame 0x14 [0x05, 0x00]) := rfl

/-! ## The small states of the tests -/

/-- ACTIVE with a write transaction begun; nothing else differs from the state after reset. -/
def awake : State :=
  { State.reset with
    power := { State.reset.power with state := .active }
    port := { slot := .empty, writeTx := .begun, hsdo := [] } }

/-- A CELL_V point on monitor 2, channel 3, slot 1. -/
def cell (g : Guard) : Definition :=
  { kind := .cellV, guard := g, monitor := some 2, channel := some 3, slot := some 1, divider := 1
    limits := { lowTrip := some 25000, lowWarn := some 30000, highWarn := some 41500, highTrip := some 42500 }
    hysteresis := 200, persistence := 3
    actions := { report := true, inhibit := true, opens := true, wakes := false }
    staleTrips := false, sleepDivider := none, members := [] }

/-- A PACK_I point in slot 1. -/
def current : Definition :=
  { cell .changeable with
    kind := .packI, monitor := none, channel := none
    limits := { lowTrip := none, lowWarn := none, highWarn := none, highTrip := some 15000 } }

def trippedLive : Live :=
  { condition := .tripped, sample := some { value := 41000, frame := 9 }, missed := 0, excursion := 3
    tripCause := some .limitHigh, spot := none, amended := false }

def profile : Profile :=
  { packPoint := 1, busPoint := 2, currentPoint := 3, prechargeRatio := 90, prechargeTimeout := 1000, minPrecharge := 100
    auxConfirm := 50, dropout := 40, breakLimit := 100, deferMax := 500 }

def State.inSeq (x : SeqState) (s : State) : State := { s with seq := { s.seq with state := x, profile := some profile } }
def State.inPower (p : PowerState) (s : State) : State := { s with power := { s.power with state := p } }
def State.holding (id : Nat) (p : Point) (s : State) : State := s.setPoint id p

/-- The table holds one record, in place `id`. -/
theorem point_holding (id : Nat) (p : Point) (s : State) (h : id < 384) : (State.holding id p s).point id = p := by
  unfold State.holding
  rw [point_setPoint]
  simp [h]

theorem arrives_of_begun (s : State) (hv : s.vsup = true) (hw : s.port.writeTx = .begun) (hr : s.power.reset = .none) :
    s.arrives := ⟨hv, Or.inl ⟨hw, by rw [hr]; decide⟩⟩

theorem awake_hands (code : Byte) : awake.hands code := ⟨arrives_of_begun _ rfl rfl rfl, rfl⟩

theorem hands_of_active (s : State) (code : Byte) (hv : s.vsup = true) (hw : s.port.writeTx = .begun)
    (hp : s.power.state = .active) (hr : s.power.reset = .none) : s.hands code :=
  ⟨arrives_of_begun s hv hw hr, by rw [hp]; rfl⟩

/-! ## The invariants hold right after reset -/

theorem reset_point (id : Nat) : State.reset.point id = .vacant := by
  simp only [State.point, State.reset]
  by_cases h : id < 384 <;> simp [h]

theorem test_reset_pinsFollow : State.reset.pinsFollow := rfl
theorem test_reset_banksCanonical : State.reset.banksCanonical := ⟨rfl, rfl⟩
theorem test_reset_pointsCauseExact : State.reset.pointsCauseExact := rfl
theorem test_reset_inhibitSetExact : State.reset.inhibitSetExact := by
  refine ⟨fun id => ?_, List.Pairwise.nil⟩
  rw [reset_point]
  simp [State.reset, Point.inhibits]
theorem test_reset_restsInSleep : State.reset.restsInSleep := by
  refine ⟨fun h => ?_, ?_, ?_, ?_⟩
  · exact absurd h (by decide)
  · rintro ⟨r, h, _⟩; cases h
  · rintro ⟨r, h, _⟩; cases h
  · rintro ⟨⟨r, h, _⟩, _⟩; cases h

/-- The hypotheses of the five invariant statements, met together. -/
theorem test_invariants_met :
    ∃ s t : State, s.pinsFollow ∧ s.banksCanonical ∧ s.pointsCauseExact ∧ s.inhibitSetExact ∧ s.restsInSleep ∧
      step s = .next t :=
  ⟨State.reset, _, rfl, ⟨rfl, rfl⟩, rfl, test_reset_inhibitSetExact, test_reset_restsInSleep, rfl⟩

/-- The same for a state in a sleep frame, its sleep enumeration running. -/
theorem test_restsInSleep_met_asleep :
    ∃ s t : State, s.power.state = .sleepFrame ∧ s.inSleepEnumeration ∧ s.restsInSleep ∧ step s = .next t := by
  refine ⟨{ State.inPower .sleepFrame State.reset with chain := { State.reset.chain with
    enumeration := some { purpose := .sleepFrame, listening := true, counting := true, found := 0 } } }, _, rfl,
    ⟨_, rfl, rfl⟩, ⟨fun _ => rfl, ?_, fun _ => rfl, ?_⟩, rfl⟩
  · rintro ⟨r, h, _⟩; cases h
  · rintro ⟨⟨r, h, _⟩, _⟩; cases h

/-! ## Hypotheses that can be met: steps, the queue, the formats -/

theorem test_StepRunsTheFrontCommand_met :
    ∃ (s : State) (c : Instr) (rest : List Instr), s.pending = c :: rest :=
  ⟨{ State.reset with pending := [.powerLoss, .powerOn] }, _, _, rfl⟩

theorem test_IdleStepAdvancesSenseTime_met :
    ∃ s : State, s.pending = [] ∧ s.vsup = true ∧ (s.sense.time + 1).toNat % 10 ≠ 0 := ⟨State.reset, rfl, rfl, by decide⟩

theorem test_CommandsLeaveTheQueue_met : ∃ (c : Instr) (s t : State), exec c s = .next t := ⟨.status [], awake, _, rfl⟩

theorem test_TransactionDecodesToItsCommand_met :
    ∃ (i : Instr) (bytes : List Byte), i.wellFormed = true ∧ i.encode = some bytes :=
  ⟨.lookup (le16 383), _, by decide, rfl⟩

theorem test_ItemsAndImagesDecode_met :
    (Item.point 383 (cell .guarded)).wellFormed = true ∧ profile.rangesOk = true ∧ Image.blank.frame.rangesOk = true ∧
      (∀ (id : Fin 384) (d : Definition), Image.blank.points[id] = some d → (Item.point id.val d).wellFormed = true) ∧
      (∀ p, Image.blank.profile = some p → p.rangesOk = true) := by
  refine ⟨by decide, by decide, by decide, ?_, ?_⟩
  · intro id d h; simp [Image.blank] at h
  · intro p h; cases h

theorem test_item_bytes : Item.decode ((Item.point 383 (cell .guarded)).encode) = some (.point 383 (cell .guarded)) := by
  decide +kernel

/-! ## The host port -/

/-- A RESET is held, with or without a write transaction in progress. -/
def behindReset (tx : WriteTx) : State :=
  { awake with
    power := { awake.power with reset := .held }
    port := { awake.port with writeTx := tx } }

theorem test_RequestsNotHanded_met :
    (∃ (s : State) (c : Instr) (body : List Byte), c.request? = some (codeLookup, body) ∧ s.arrives ∧ s.power.state = .waking) ∧
    (∃ (s : State) (c : Instr) (body : List Byte), c.request? = some (codeStatus, body) ∧ s.arrives ∧ s.power.state = .sleepFrame) ∧
    (∃ (s : State) (c : Instr) (body : List Byte), c.request? = some (codeStatus, body) ∧ s.vsup = true ∧ s.port.writeTx = .discarded) ∧
    ((behindReset .begun).vsup = true ∧ (behindReset .begun).port.writeTx = .begun ∧
      (behindReset .begun).power.reset = .held) ∧
    ((behindReset .none).vsup = true ∧ (behindReset .none).port.writeTx = .none ∧
      (behindReset .none).power.reset = .held) :=
  ⟨⟨State.inPower .waking awake, .lookup [], [], rfl, arrives_of_begun _ rfl rfl rfl, rfl⟩,
    ⟨State.inPower .sleepFrame awake, .status [], [], rfl, arrives_of_begun _ rfl rfl rfl, rfl⟩,
    ⟨{ awake with port := { awake.port with writeTx := .discarded } }, .status [], [], rfl, rfl, rfl⟩, ⟨rfl, rfl, rfl⟩,
    rfl, rfl, rfl⟩

/-- R189: a transaction begun while a RESET is held: the end of the last write enters LOADING and leaves it begun. -/
theorem test_lastWriteEnd_keeps_the_transaction :
    ∃ t, exec (.counterWriteEnd false) ((behindReset .begun).requestCounterWrite false) = .next t ∧
      t.power.state = .loading ∧ t.power.reset = .none ∧ t.port.writeTx = .begun := ⟨_, rfl, rfl, rfl, rfl⟩

/-- R130, R189: its request is then treated by the power state LOADING. -/
theorem test_request_across_the_reset :
    ∃ t, exec (.lookup [0, 0]) ((behindReset .begun).enterLoading .reset) = .next t ∧
      t.port.slot = .holding (answerFrame codeLookup .starting []) := ⟨_, rfl, rfl⟩

theorem test_BodyOfAnotherLength_met :
    ∃ (c : Instr) (s : State), c.request? = some (codeTrip, [1]) ∧ s.hands codeTrip ∧ ([1] : List Byte) ≠ [] :=
  ⟨.trip [1], awake, rfl, awake_hands _, by decide⟩

theorem test_WriteTransactionBegins_met :
    (∃ s : State, s.vsup = true ∧ s.power.reset = .none ∧ s.power.state = .active) ∧
    (∃ s : State, s.vsup = true ∧ s.power.reset = .none ∧ s.power.state = .deepSleep) ∧
    (∃ s : State, s.vsup = true ∧ s.power.reset = .held) ∧
    (∃ s : State, s.vsup = true ∧ s.power.reset = .pending ∧ s.storeBusy = true) ∧
    (∃ s : State, s.vsup = true ∧ s.power.reset = .pending ∧ s.storeBusy = false) :=
  ⟨⟨awake, rfl, rfl, rfl⟩, ⟨State.inPower .deepSleep awake, rfl, rfl, rfl⟩,
    ⟨{ awake with power := { awake.power with reset := .held } }, rfl, rfl⟩,
    ⟨({ awake with power := { awake.power with reset := .pending } }).requestCounterWrite false, rfl, rfl, rfl⟩,
    ⟨{ awake with power := { awake.power with reset := .pending } }, rfl, rfl, rfl⟩⟩

theorem test_ReadReturns_met :
    (∃ s : State, s.vsup = true ∧ s.power.reset ≠ .pending ∧ s.power.state = .sleepFrame) ∧
    (∃ s : State, s.vsup = true ∧ s.power.state = .active ∧ s.power.reset = .held) ∧
    (∃ s : State, s.vsup = true ∧ s.power.state = .active ∧ s.power.reset = .none ∧ s.port.slot = .holding [1, 2]) ∧
    (∃ s : State, s.vsup = true ∧ s.power.state = .active ∧ s.power.reset = .none ∧ ∀ f, s.port.slot ≠ .holding f) :=
  ⟨⟨State.inPower .sleepFrame awake, rfl, by decide, rfl⟩,
    ⟨{ awake with power := { awake.power with reset := .held } }, rfl, rfl, rfl⟩,
    ⟨{ awake with port := { awake.port with slot := .holding [1, 2] } }, rfl, rfl, rfl, rfl⟩,
    ⟨awake, rfl, rfl, rfl, fun f h => by cases h⟩⟩

/-- R185, R189: three bytes clocked out of an empty slot. -/
theorem test_read_notReady :
    ∃ t, exec (.readTransaction 4) awake = .next t ∧ t.port.hsdo = [0xFF, 0xEE, 0xEE, 0xFF] := ⟨_, rfl, rfl⟩

theorem test_ResetBegins_met :
    (awake.hands codeReset ∧ awake.power.state = .active ∧ awake.seq.state.atRest = true ∧ awake.storeBusy = false) ∧
    ((awake.requestCounterWrite false).hands codeReset ∧ (awake.requestCounterWrite false).storeBusy = true) ∧
    ((State.inSeq .closed awake).hands codeReset ∧ (State.inSeq .closed awake).seq.state.atRest = false) ∧
    (∃ s : State, s.vsup = true ∧ s.power.reset = .pending ∧ s.power.state = .active ∧
      s.port.slot = .holding (answerFrame codeReset .done []) ∧ s.storeBusy = false) :=
  ⟨⟨awake_hands _, rfl, rfl, rfl⟩, ⟨⟨arrives_of_begun _ rfl rfl rfl, rfl⟩, rfl⟩, ⟨⟨arrives_of_begun _ rfl rfl rfl, rfl⟩, rfl⟩,
    ⟨{ awake with
        power := { awake.power with reset := .pending }
        port := { awake.port with slot := .holding (answerFrame codeReset .done []) } }, rfl, rfl, rfl, rfl, rfl⟩⟩

theorem test_FrameChecks_met :
    awake.arrives ∧ badTransaction [0x10, 5] = true ∧ (State.inPower .deepSleep awake).arrives ∧ (0x99 : Byte) ≠ 0 ∧
      (0x99 : Byte) ∉ requestCodes :=
  ⟨arrives_of_begun _ rfl rfl rfl, by decide, arrives_of_begun _ rfl rfl rfl, by decide, by decide⟩

/-! ## Supply and load -/

theorem test_SupplyComesAndGoes_met :
    (∃ s : State, s.vsup = false ∧ s.store.inFlight = .none) ∧
    (∃ (s : State) (w : CounterWrite), s.vsup = true ∧ s.store.inFlight = .counter w ∧ w.slot = .caA) :=
  ⟨⟨State.reset.losePower, rfl, rfl⟩, ⟨awake.requestCounterWrite false, _, rfl, rfl, rfl⟩⟩

theorem test_LoadEndBuildsTheBlocks_met :
    ∃ s : State, s.vsup = true ∧ s.power.state = .loading ∧ s.store.ready = false ∧ s.sense.allKnown = false :=
  ⟨State.reset, rfl, rfl, rfl, rfl⟩

/-- The five lines known at their rest levels. -/
def knownLines : Sense :=
  let x : DebounceStage := { DebounceStage.unknown with level := some false, setStamp := some 10 }
  { State.reset.sense with auxNeg := x, auxPos := x, crash := x, wake := x, lid := x }

theorem test_LoadEndBuildsTheBlocks_met_known :
    ∃ s : State, s.vsup = true ∧ s.power.state = .loading ∧ s.store.ready = false ∧ s.sense.allKnown = true :=
  ⟨{ State.reset with sense := knownLines }, rfl, rfl, rfl, rfl⟩

/-! ## Small facts that spare the kernel a walk over the table -/

theorem idsWhere_none (q : Nat → Bool) (h : ∀ id, q id = false) : idsWhere q = [] := by
  simp [idsWhere, h]

theorem idsWhere_only (q : Nat → Bool) (k : Nat) (hk : k < 384) (h : ∀ id, q id = (id == k)) : idsWhere q = [k] := by
  have hq : q = (· == k) := funext h
  have hc : tableIds.count k = 1 := by
    rw [tableIds_nodup.count]
    simp [mem_tableIds, hk]
  rw [hq, idsWhere, List.filter_beq, hc]
  rfl

theorem blank_point (f : FrameParams) (p : Option Profile) (id : Nat) :
    ({ points := Vector.replicate 384 none, profile := p, frame := f } : Image).point id = none := by
  simp only [Image.point]
  by_cases h : id < 384 <;> simp [h]
theorem awake_sourceHeld (d : Definition) : awake.sourceHeld d = false := by
  have h : ∀ id, awake.point id = .vacant := reset_point
  simp [State.sourceHeld, idsWhere_none, h, Point.definition?]

theorem awake_enlists (d : Definition)
    (h : (d.guard == .changeable && d.shapeOk && awake.membersTaken d && d.limits.within (awake.limitRangeOf d)) = true) :
    awake.enlistable d = true := by
  unfold State.enlistable
  rw [h, awake_sourceHeld]
  rfl

/-- With one record in the table, a test that fails on VACANT records holds of that id at most. -/
theorem holding_idsWhere (id : Nat) (p : Point) (s : State) (q : Point → Bool) (hid : id < 384)
    (hs : ∀ x, s.point x = .vacant) (hv : q .vacant = false) :
    idsWhere (fun x => q ((State.holding id p s).point x)) = if q p = true then [id] else [] := by
  have hx : ∀ x, q ((State.holding id p s).point x) = (q p && x == id) := by
    intro x
    unfold State.holding
    rw [point_setPoint]
    by_cases h : x = id <;> simp [h, hid, hs, hv]
  by_cases hq : q p = true
  · rw [if_pos hq]
    exact idsWhere_only _ id hid (fun x => by rw [hx, hq]; rfl)
  · rw [if_neg hq]
    exact idsWhere_none _ (fun x => by rw [hx]; simp [hq])

/-! ## Requests on points -/

/-- ACTIVE with point 7 LIVE on a cell, in the live part given. -/
def withLive (g : Guard) (l : Live) (p : Option PendingPart) : State := State.holding 7 (.live (cell g) l p) awake

def normalLive : Live := { trippedLive with condition := .normal, tripCause := none, excursion := 0 }

theorem withLive_point (g : Guard) (l : Live) (p : Option PendingPart) :
    (withLive g l p).point 7 = .live (cell g) l p := point_holding 7 _ _ (by decide)

theorem withLive_hands (g : Guard) (l : Live) (p : Option PendingPart) (code : Byte) : (withLive g l p).hands code :=
  hands_of_active _ _ rfl rfl rfl rfl

def enlistBody (id : Nat) (d : Definition) : List Byte := le16 id ++ d.encode

/-- ACTIVE with one item staged. -/
def staging (x : Item) : State := { awake with engine := { awake.engine with state := .staging, stage := [x] } }

theorem test_Enlist_met :
    awake.hands codeEnlist ∧
    (enlistLengthOk (enlistBody 384 (cell .changeable)) = true ∧ 383 < u16 (enlistBody 384 (cell .changeable)) 0) ∧
    (u16 (enlistBody 7 (cell .changeable)) 0 ≤ 383 ∧ (withLive .changeable normalLive none).point 7 ≠ .vacant) ∧
    (awake.point 383 = .vacant ∧ (staging (.remove 383)).enlistStaged 383 (enlistBody 383 (cell .changeable)) = true) ∧
    (awake.enlistStaged 383 (enlistBody 383 (cell .guarded)) = false ∧
      Definition.decode ((enlistBody 383 (cell .guarded)).drop 2) = some (cell .guarded) ∧
      awake.enlistable (cell .guarded) = false) := by
  refine ⟨awake_hands _, ?_⟩
  decide +kernel

theorem test_Enlist_met_taken :
    (Definition.decode ((enlistBody 0 { cell .changeable with slot := some 31 }).drop 2) =
        some { cell .changeable with slot := some 31 } ∧
      awake.enlistable { cell .changeable with slot := some 31 } = true ∧ awake.smallestSlotCount ≤ 31) ∧
    (awake.enlistStaged 0 (enlistBody 0 (cell .changeable)) = false ∧
      Definition.decode ((enlistBody 0 (cell .changeable)).drop 2) = some (cell .changeable) ∧
      awake.enlistable (cell .changeable) = true ∧ 1 < awake.smallestSlotCount) :=
  ⟨⟨by decide +kernel, awake_enlists _ (by decide +kernel), by decide⟩,
    by decide +kernel, by decide +kernel, awake_enlists _ (by decide +kernel), by decide⟩

theorem test_Lookup_met :
    (awake.hands codeLookup ∧ awake.point 383 = .vacant) ∧
    (∃ s : State, s.hands codeLookup ∧ s.point 0 = .enlisting (cell .changeable)) ∧
    (withLive .guarded trippedLive none).point 7 = .live (cell .guarded) trippedLive none :=
  ⟨⟨awake_hands _, reset_point 383⟩,
    ⟨State.holding 0 (.enlisting (cell .changeable)) awake, hands_of_active _ _ rfl rfl rfl rfl,
      point_holding 0 _ _ (by decide)⟩, withLive_point ..⟩

/-- A change block that names hysteresis 100 and nothing else. -/
def hysteresisChange : List Byte := le16 0x40 ++ List.replicate 19 0 ++ le16 100 ++ List.replicate 4 0

theorem test_Amend_met :
    ∃ c : Change, (le16 7 ++ hysteresisChange).length = 29 ∧ Change.decode hysteresisChange = some c ∧
      (withLive .changeable normalLive none).staged 7 = false ∧
      (withLive .changeable normalLive none).changeOk c (cell .changeable) none = true ∧ c.slot = none := by
  refine ⟨{ Change.nothing with hysteresis := some 100 }, ?_⟩
  decide +kernel

theorem test_Amendg_met :
    ∃ c : Change, ([0, 0, 2] ++ hysteresisChange).length = 30 ∧
      groupBody? ([0, 0, 2] ++ hysteresisChange) = some (.cellV, 0, 2, c) ∧
      (withLive .changeable normalLive none).groupTargets .cellV 0 2 = [7] ∧
      (withLive .changeable normalLive none).staged 7 = false ∧
      (Point.live (cell .changeable) normalLive none).groupOk c = true :=
  ⟨{ Change.nothing with hysteresis := some 100 }, by decide, by decide +kernel,
    holding_idsWhere 7 (.live (cell .changeable) normalLive none) awake (Point.groupTarget .cellV 0 2) (by decide)
      reset_point rfl,
    rfl, by decide⟩

theorem test_Retire_met :
    (withLive .changeable normalLive none).hands codeRetire ∧
    (withLive .changeable normalLive (some .retire)).point 7 = .live (cell .changeable) normalLive (some .retire) ∧
    (withLive .guarded normalLive none).point 7 = .live (cell .guarded) normalLive none ∧
    ({ withLive .changeable normalLive none with engine := (staging (.remove 7)).engine }).staged 7 = true ∧
    (State.holding 8 (.enlisting { cell .changeable with kind := .aggMax, members := [7, 9] })
      (withLive .changeable normalLive none)).inUse 7 = true ∧
    ((withLive .changeable trippedLive none).staged 7 = false ∧ (withLive .changeable trippedLive none).inUse 7 = false ∧
      trippedLive.condition = .tripped) ∧
    ((withLive .changeable normalLive none).staged 7 = false ∧ (withLive .changeable normalLive none).inUse 7 = false ∧
      normalLive.condition ≠ .tripped) := by
  refine ⟨withLive_hands .., withLive_point .., withLive_point .., ?_⟩
  decide +kernel

/-- The one record of the table belongs in the inhibit set, and is in it. -/
theorem exact_one (l : Live) (h : (Point.live (cell .changeable) l none).inhibits = true) :
    State.inhibitSetExact
      { withLive .changeable l none with table := { (withLive .changeable l none).table with inhibitSet := [7] } } := by
  refine ⟨fun id => ?_, List.pairwise_singleton _ _⟩
  show id ∈ [7] ↔ ((withLive .changeable l none).point id).inhibits = true
  by_cases hid : id = 7
  · subst hid
    rw [withLive_point, h]
    simp
  · have hp : (withLive .changeable l none).point id = .vacant := by
      unfold withLive State.holding
      rw [point_setPoint, if_neg (by simp [hid])]
      exact reset_point id
    rw [hp]
    simp [hid, Point.inhibits]

/-- A point that opens, and neither inhibits nor reports. -/
def uninhibiting : Definition :=
  { cell .changeable with actions := { report := false, inhibit := false, opens := true, wakes := false } }

/-- RELEASE on a point with INHIBIT that becomes NORMAL, on one that becomes WARN at the end of the band, on one without
INHIBIT, and with the inhibit set exact. -/
theorem test_Release_met_sets :
    (∃ s : State, s.hands codeRelease ∧ s.point 7 = .live (cell .changeable) trippedLive none ∧ s.inhibitSetExact) ∧
    (clearTest (cell .changeable) { trippedLive with sample := some { value := 42300, frame := 9 } } = true ∧
      (cell .changeable).limits.outsideWarn 42300 = true ∧ (cell .changeable).actions.inhibit = true) ∧
    (clearTest uninhibiting trippedLive = true ∧
      ∃ s : State, s.hands codeRelease ∧ s.point 7 = .live uninhibiting trippedLive none) :=
  ⟨⟨{ withLive .changeable trippedLive none with
        table := { (withLive .changeable trippedLive none).table with inhibitSet := [7] } },
      hands_of_active _ _ rfl rfl rfl rfl, withLive_point .changeable trippedLive none, exact_one trippedLive (by decide)⟩,
    by decide, by decide,
    State.holding 7 (.live uninhibiting trippedLive none) awake, hands_of_active _ _ rfl rfl rfl rfl,
    point_holding 7 _ _ (by decide)⟩

theorem test_Release_met :
    (withLive .changeable trippedLive none).hands codeRelease ∧
      (withLive .changeable trippedLive none).point 7 = .live (cell .changeable) trippedLive none ∧
      trippedLive.condition = .tripped ∧ clearTest (cell .changeable) trippedLive = true :=
  ⟨withLive_hands .., withLive_point .., rfl, by decide⟩

theorem test_Changes_met :
    ∃ s : State, s.hands codeChanges ∧ s.table.changedSet = [3, 383] :=
  ⟨{ awake with table := { awake.table with changedSet := [3, 383] } }, hands_of_active _ _ rfl rfl rfl rfl, rfl⟩

theorem test_Qinhib_met :
    awake.hands codeQinhib ∧ (384 : Nat) < 65536 ∧ 383 < 384 ∧
      exec (.qinhib (le16 384)) awake = .next (awake.answered codeQinhib 2 .badArgument []) ∧
      exec (.qinhib (le16 383)) awake = .next (awake.answered codeQinhib 2 .done [0, 0, 0]) :=
  ⟨awake_hands _, by decide, by decide, rfl, rfl⟩

/-! ## Judgement -/

/-- R27, R28: values where the clauses meet, against the limits 25000, 30000, 41500 and 42500 with hysteresis 200. -/
theorem test_judged_boundaries :
    (normalLive.judged (cell .changeable) 41500 0).condition = .normal ∧
    (normalLive.judged (cell .changeable) 41501 0).condition = .warn ∧
    ({ normalLive with condition := .warn }.judged (cell .changeable) 41301 0).condition = .warn ∧
    ({ normalLive with condition := .warn }.judged (cell .changeable) 41300 0).condition = .normal ∧
    (normalLive.judged (cell .changeable) 42501 0).excursion = 1 ∧
    ({ normalLive with excursion := 2 }.judged (cell .changeable) 42501 0).condition = .tripped ∧
    ({ normalLive with excursion := 2 }.judged (cell .changeable) 24999 0).tripCause = some .limitLow ∧
    (trippedLive.judged (cell .changeable) 35000 0).condition = .tripped := by decide

theorem test_miss_boundaries :
    ({ normalLive with missed := 1 }.afterMiss (cell .changeable)).condition = .normal ∧
    ({ normalLive with missed := 2 }.afterMiss (cell .changeable)).condition = .stale ∧
    ({ normalLive with missed := 2 }.afterMiss { cell .changeable with staleTrips := true }).tripCause = some .stale ∧
    ({ trippedLive with missed := 2 }.afterMiss (cell .changeable)).tripCause = some .limitHigh := by decide

/-! ## The Frame Clock and the ring -/

def setfrmBody (length slots period : Nat) : List Byte := le8 length ++ le8 slots ++ le16 period

theorem test_Setfrm_met :
    awake.hands codeSetfrm ∧ (setfrmBody 100 8 60).length = 4 ∧
    (({ frameLength := 4, slotCount := 8, sleepPeriod := 60 } : PendingParams).rangesOk = false) ∧
    (({ frameLength := 5, slotCount := 4, sleepPeriod := 1 } : PendingParams).rangesOk = true) ∧
    (staging (.frame .blank)).stagedFrame? ≠ none ∧ awake.stagedFrame? = none ∧
    (State.holding 7 (.enlisting { cell .changeable with slot := some 4 }) awake).slotsBelow 4 = false ∧
    awake.slotsBelow 4 = true := by
  refine ⟨awake_hands _, ?_⟩
  decide +kernel

theorem test_Queries_met :
    awake.hands codeQfrm ∧ awake.hands codeQchain ∧ awake.hands codeQcont ∧ awake.hands codeQpower ∧
      awake.hands codeQstore :=
  ⟨awake_hands _, awake_hands _, awake_hands _, awake_hands _, awake_hands _⟩

/-- ACTIVE in the tail of a frame. -/
def inTail : State := { awake with clock := { awake.clock with phase := .tail, opened := true, timer := some 100 } }

theorem inTail_hands (code : Byte) : inTail.hands code := hands_of_active _ _ rfl rfl rfl rfl

/-- The same with monitor 2 on the ring. -/
def withMonitor (s : State) : State := s.setEntry 2 { RosterEntry.blank with state := .present }

theorem test_Tail_met :
    (State.inPower .settling inTail).hands codeSpot ∧ (inTail.point 383).isLive = false ∧
    (∃ s : State, s.hands codeSpot ∧ s.power.state ≠ .settling ∧ (s.point 7).isLive = true ∧
      TailItem.spot 7 ∈ s.clock.tail) ∧
    (∃ s : State, (s.point 7).isLive = true ∧ TailItem.spot 7 ∉ s.clock.tail ∧ 4 ≤ s.clock.tail.length) ∧
    ((withLive .changeable normalLive none).clock.tail.length < 4 ∧
      (withLive .changeable normalLive none).tailFree = false) ∧
    (∃ (s : State) (d : Definition), s.hands codeSpot ∧ s.point 8 = .live d normalLive none ∧
      d.kind.converter? = some .shuntCurrent ∧ s.clock.tail = [] ∧ s.tailFree = true ∧
      s.capture? .shuntCurrent = none) ∧
    ((withMonitor awake).hands codeMstat ∧ (withMonitor awake).readable 2 = true ∧
      (withMonitor awake).tailFree = false) ∧
    ((withMonitor inTail).readable 2 = true ∧ (withMonitor inTail).tailFree = true) ∧
    awake.hands codeDiscov := by
  refine ⟨⟨arrives_of_begun _ rfl rfl rfl, rfl⟩, by decide +kernel,
    ⟨{ withLive .changeable normalLive none with clock := { awake.clock with tail := [.spot 7] } },
      hands_of_active _ _ rfl rfl rfl rfl, by decide, by decide +kernel, by decide⟩,
    ⟨{ withLive .changeable normalLive none with
        clock := { awake.clock with tail := [.spot 1, .spot 2, .mstat 15 true, .spot 4] } },
      by decide +kernel, by decide, by decide⟩,
    ⟨by decide, by decide⟩,
    ⟨State.holding 8 (.live current normalLive none) inTail, current, hands_of_active _ _ rfl rfl rfl rfl,
      point_holding 8 _ _ (by decide), rfl, rfl, rfl, rfl⟩,
    ⟨hands_of_active _ _ rfl rfl rfl rfl, by decide +kernel, by decide⟩, ⟨by decide +kernel, by decide⟩, awake_hands _⟩

theorem test_FrameStart_met :
    (inTail.vsup = true ∧ inTail.power.state = .active ∧ inTail.clock.phase = .tail ∧ inTail.engine.state ≠ .applying) ∧
    (∃ (s : State) (p : PendingParams), s.clock.phase = .tail ∧ s.clock.waiting = some p) ∧
    (∃ s : State, s.clock.phase = .tail ∧ s.point 0 = .enlisting (cell .changeable)) ∧
    (∃ (s : State) (c : Change), s.clock.phase = .tail ∧
      s.point 383 = .live (cell .changeable) normalLive (some (.fields c))) ∧
    (∃ s : State, s.clock.phase = .tail ∧ s.point 0 = .live (cell .changeable) normalLive (some .retire)) ∧
    (∃ s : State, s.clock.phase = .tail ∧ s.point 0 = .live (cell .changeable) normalLive none) :=
  ⟨⟨rfl, rfl, rfl, by decide⟩,
    ⟨{ inTail with clock := { inTail.clock with
        waiting := some { frameLength := 5, slotCount := 4, sleepPeriod := 1 } } }, _, rfl, rfl⟩,
    ⟨State.holding 0 _ inTail, rfl, point_holding 0 _ _ (by decide)⟩,
    ⟨State.holding 383 _ inTail, Change.nothing, rfl, point_holding 383 _ _ (by decide)⟩,
    ⟨State.holding 0 _ inTail, rfl, point_holding 0 _ _ (by decide)⟩,
    ⟨State.holding 0 _ inTail, rfl, point_holding 0 _ _ (by decide)⟩⟩

theorem test_FrameStartEndsTheCommit_met :
    (∀ x : Item, ∃ s : State, s.vsup = true ∧ s.power.state = .active ∧ s.clock.phase = .tail ∧
      s.engine.state = .applying ∧ s.engine.stage = [x]) ∧ (383 : Nat) ≤ 383 :=
  ⟨fun x => ⟨{ inTail with engine := { inTail.engine with state := .applying, stage := [x] } }, rfl, rfl, rfl, rfl, rfl⟩,
    by decide⟩

/-- Slot 0 of a frame, its round ended, with a LIVE cell point of slot 1 on a monitor that can be read. -/
def slotZero (running : Bool) : State :=
  let s := withMonitor (withLive .changeable normalLive none)
  { s with clock := { s.clock with phase := .slot 0 running, opened := true, timer := some 100 } }

theorem slotZero_points (running : Bool) (k : Nat) : (slotZero running).slotPoints k = if k = 1 then [7] else [] := by
  have h := holding_idsWhere 7 (.live (cell .changeable) normalLive none) awake
    (fun p => p.liveDefinition?.any (fun d => !d.kind.isAggregate && d.slot == some k && d.dueIn 0)) (by decide)
    reset_point rfl
  refine Eq.trans h ?_
  by_cases hk : k = 1
  · subst hk; rfl
  · have hk' : 1 ≠ k := fun e => hk e.symm
    simp [Point.liveDefinition?, cell, hk, hk']

theorem test_SlotStartReads_met :
    ∃ (s : State) (e : Nat × Block) (rest : List (Nat × Block)), s.vsup = true ∧ s.clock.phase = .slot 0 false ∧
      0 + 1 < s.clock.active.slotCount ∧ s.chain.round = none ∧ s.clock.given = false ∧
      (∀ id ∈ s.slotPoints 1, ∀ x, s.readEntry? id = some x → s.readable x.1 = true) ∧
      s.readQueue (s.slotPoints 1) s.readable = e :: rest := by
  have he : (slotZero false).readEntry? 7 = some (2, .cells) := by decide +kernel
  have hr : (slotZero false).readable 2 = true := by decide +kernel
  refine ⟨slotZero false, (2, .cells), [], rfl, rfl, by decide, rfl, rfl, ?_, ?_⟩
  · intro id hid x hx
    rw [slotZero_points] at hid
    cases List.mem_singleton.1 hid
    rw [he] at hx
    cases hx
    exact hr
  · rw [slotZero_points]
    decide +kernel

/-- A round with one entry left, for point 7. -/
def cellRound : Round :=
  { inSleep := false, points := [7], monitors := [2], queue := [(2, .cells)], failed := [], accepted := [] }

def cellRead : Read := roundRead (2, .cells)

theorem test_SlotStartOverruns_met :
    ∃ (s : State) (r : Round), s.vsup = true ∧ s.clock.phase = .slot 5 true ∧ s.chain.round = some r ∧
      s.slotPoints 6 = [] ∧ 5 + 2 < s.clock.active.slotCount ∧ r.points.Nodup :=
  ⟨{ slotZero true with
      clock := { (slotZero true).clock with phase := .slot 5 true }
      chain := { (slotZero true).chain with round := some cellRound } }, cellRound, rfl, rfl, rfl, slotZero_points true 6,
    by decide, by decide⟩

theorem test_Delivery_met :
    ∃ s : State, s.vsup = true ∧ s.capture? .shuntCurrent = some { ids := [8], spot := none } ∧ [8].Nodup ∧
      s.point 8 = .live current normalLive none :=
  ⟨{ State.holding 8 (.live current normalLive none) awake with
      sense := { awake.sense with shunt := some { ids := [8], spot := none } } },
    rfl, rfl, by decide, point_holding 8 (.live current normalLive none) awake (by decide)⟩

/-- A PACK_I point that is kept through sleep and wakes the part. -/
def sleeping : Definition :=
  { current with sleepDivider := some 1, actions := { report := true, inhibit := true, opens := true, wakes := true } }

/-- A capture of one point whose reading trips it, in a sleep frame and in ACTIVE, and one that changes nothing; readings
20000 and 20479. -/
theorem test_Delivery_met_one :
    (∀ p : PowerState, ∃ s : State, s.vsup = true ∧ s.power.state = p ∧
      s.capture? .shuntCurrent = some { ids := [8], spot := none } ∧ s.point 8 = .live sleeping normalLive none ∧
      s.seq.profile = some { profile with currentPoint := 8 }) ∧
    (({ normalLive with excursion := 2 }.judged sleeping 20000 0).condition = .tripped ∧
      convertedValue .shuntCurrent 20000 = some 20000) ∧
    ((normalLive.judged sleeping 15000 0).condition = normalLive.condition ∧
      convertedValue .shuntCurrent 15000 = some 15000) ∧
    (({ normalLive with missed := 2 }.afterMiss sleeping).condition = .stale ∧
      convertedValue .shuntCurrent 20479 = none) :=
  ⟨fun p => ⟨{ State.inPower p (State.inSeq .precharging (State.holding 8 (.live sleeping normalLive none) awake)) with
      seq := { awake.seq with state := .precharging, profile := some { profile with currentPoint := 8 } }
      sense := { awake.sense with shunt := some { ids := [8], spot := none } } },
    rfl, rfl, rfl, point_holding 8 (.live sleeping normalLive none) awake (by decide), rfl⟩, by decide, by decide,
    by decide⟩

/-- The capture of a SPOT item alone, with no item behind it. -/
theorem test_Delivery_met_spot :
    ∃ s : State, s.vsup = true ∧ s.capture? .shuntCurrent = some { ids := [], spot := some 8 } ∧
      s.point 8 = .live current normalLive none ∧ s.clock.tail = [.spot 8] :=
  ⟨{ State.holding 8 (.live current normalLive none) inTail with
      clock := { inTail.clock with tail := [.spot 8], tailInFlight := true }
      sense := { awake.sense with shunt := some { ids := [], spot := some 8 } } },
    rfl, rfl, point_holding 8 (.live current normalLive none) inTail (by decide), rfl⟩

/-- R88: the ends of the ranges, and the readings beside them. -/
theorem test_reading_boundaries :
    convertedValue .shuntCurrent (-20480) = none ∧ convertedValue .shuntCurrent (-20479) = some (-20000) ∧
    convertedValue .shuntCurrent (-20000) = some (-20000) ∧ convertedValue .shuntCurrent 20001 = some 20000 ∧
    convertedValue .shuntCurrent 20479 = none ∧ convertedValue .packVoltage (-512) = none ∧
    convertedValue .packVoltage (-1) = some 0 ∧ convertedValue .packVoltage 12000 = some 12000 ∧
    convertedValue .busVoltage 12001 = some 12000 ∧ convertedValue .busVoltage 12287 = none := by decide

/-- A BLOCK_REPLY of a TEMPS block: 11.6, with the header and data check values of the manual's CRCs. -/
def tempsReply (address tag : Byte) (words : List Byte) : List Byte :=
  withCrc8 [0x85, address, 1, tag, 0] ++ words ++ leWord16 (crc16 words)

theorem test_reply_checks :
    let r := roundRead (2, .temps)
    checkReply r 5 (tempsReply 2 5 [1, 0, 2, 0, 3, 0, 0, 0x80]) = .good false [1, 2, 3, 0x8000] ∧
    checkReply r 6 (tempsReply 2 5 [1, 0, 2, 0, 3, 0, 4, 0]) = .failed .tagStale false ∧
    checkReply r 5 (tempsReply 3 5 [1, 0, 2, 0, 3, 0, 4, 0]) = .mismatch ∧
    checkReply r 5 [0x85, 2, 1] = .badHeader := by decide +kernel

theorem test_FailedAttempt_met :
    ∃ (r : Read) (s : State), s.vsup = true ∧ s.chain.read = some r ∧ checkReply r s.chain.tag [0x85] = .badHeader ∧
      checkReply r s.chain.tag (tempsReply 3 0 []) = .mismatch :=
  ⟨cellRead, { awake with chain := { awake.chain with read := some cellRead } }, rfl, rfl, by decide +kernel,
    by decide +kernel⟩

theorem test_AcceptedReply_met :
    ∃ (s : State) (q : Round) (r : Read) (m : List Byte) (words : List Nat), s.vsup = true ∧ s.chain.read = some r ∧
      r.owner = .round ∧ s.chain.round = some q ∧ q.queue = (r.address, r.block) :: (3, .cells) :: [] ∧
      q.points.Nodup ∧ checkReply r s.chain.tag m = .good false words :=
  let r := roundRead (2, .temps)
  let q : Round := { cellRound with queue := [(2, .temps), (3, .cells)] }
  ⟨{ awake with chain := { awake.chain with read := some r, round := some q } }, q, r,
    tempsReply 2 0 [1, 0, 2, 0, 3, 0, 4, 0], [1, 2, 3, 4], rfl, rfl, rfl, rfl, rfl, by decide, by decide +kernel⟩

def enumerating (listening : Bool) (found : Nat) (p : EnumPurpose) : State :=
  { awake with chain := { awake.chain with
    enumeration := some { purpose := p, listening := listening, counting := true, found := found } } }

theorem test_Enumeration_met :
    (enumerating false 0 (.discovery .request 2)).vsup = true ∧
    (∃ (e : Enumeration) (s : State), s.chain.enumeration = some e ∧ e.listening = true ∧ s.chain.read = none ∧
      e.counting = true ∧ countsAs e.found (withCrc8 [0x81, 15]) = true) ∧
    (∃ (e : Enumeration) (s : State), s.vsup = true ∧ s.chain.enumeration = some e ∧ s.power.state = .active ∧
      e.listening = true ∧ e.purpose = .discovery .request 16 ∧ s.clock.tail = []) :=
  ⟨rfl, ⟨_, enumerating true 15 (.discovery .request 16), rfl, rfl, rfl, rfl, by decide +kernel⟩,
    ⟨_, enumerating true 15 (.discovery .request 16), rfl, rfl, rfl, rfl, rfl, rfl⟩⟩

/-! ## Lines -/

theorem test_Debounce_met :
    (∃ x : DebounceStage, x.level = some true) ∧
    (∃ x : DebounceStage, x.level ≠ some true ∧ x.runLevel ≠ some true) ∧
    (∃ x : DebounceStage, x.level ≠ some true ∧ x.run = 2 ∧ x.runLevel = some true ∧ x.runStamp = some 40) ∧
    (∃ x : DebounceStage, x.level ≠ some true ∧ x.run = 3 ∧ x.runLevel = some true ∧ x.runStamp = some 40) :=
  ⟨⟨{ DebounceStage.unknown with level := some true }, rfl⟩, ⟨.unknown, by decide, by decide⟩,
    ⟨{ DebounceStage.unknown with run := 2, runLevel := some true, runStamp := some 40 }, by decide, rfl, rfl, rfl⟩,
    ⟨{ DebounceStage.unknown with run := 3, runLevel := some true, runStamp := some 40 }, by decide, rfl, rfl, rfl⟩⟩

theorem test_LineSample_met :
    ∃ (s : State) (l : LineLevels), s.vsup = true ∧ s.power.state ≠ .loading ∧
      stageChange s.sense.lid (s.sense.lid.step l.lid (nextSampleTime s.sense.time)) = some (true, 7) :=
  ⟨{ awake with sense := { knownLines with lid :=
      { knownLines.lid with run := 3, runLevel := some true, runStamp := some 7 } } },
    { awake.sense.lines with lid := true }, rfl, by decide, by decide⟩

/-- A stage one sample away from this level, its run begun at count 7. -/
def poised (b : Bool) : DebounceStage :=
  { level := some !b, run := 3, runLevel := some b, runStamp := some 7, setStamp := some 0 }

/-- What a sample at count 10 changes, when one line alone is poised. -/
theorem test_one_change (b : Bool) :
    (∀ x : Sense, x = { knownLines with auxNeg := poised b } →
      lineChanges x (x.sampled { awake.sense.lines with auxNeg := b }) = .edge .neg b 7) ∧
    (∀ x : Sense, x = { knownLines with auxPos := poised b } →
      lineChanges x (x.sampled { awake.sense.lines with auxPos := b }) = .edge .pos b 7) ∧
    (∀ x : Sense, x = { knownLines with crash := poised b } →
      lineChanges x (x.sampled { awake.sense.lines with crash := b }) =
        { LineChanges.none with crash := some (b, 7) }) ∧
    (∀ x : Sense, x = { knownLines with wake := poised b } →
      lineChanges x (x.sampled { awake.sense.lines with wake := b }) = { LineChanges.none with wake := some (b, 7) }) ∧
    (∀ x : Sense, x = { knownLines with lid := poised b } →
      lineChanges x (x.sampled { awake.sense.lines with lid := b }) = { LineChanges.none with lid := some (b, 7) }) := by
  refine ⟨?_, ?_, ?_, ?_, ?_⟩ <;> (intro x h; subst h; cases b <;> rfl)

theorem test_no_change : lineChanges knownLines (knownLines.sampled awake.sense.lines) = .none := rfl

/-- Every power state and sequencer state outside LOADING meets a sample of any of these changes; the sample comes at count
10, 29 or 30 counts after the coil instant, and 3 counts after the stamp 7. -/
theorem test_LineSample_met_edges (q : SeqState) (p : PowerState) (x : Sense) (coil : Word32) (ids : List Nat)
    (c : OpeningContext) :
    ∃ s : State, s.vsup = true ∧ s.power.state = p ∧ s.seq.state = q ∧ s.seq.profile = some profile ∧
      s.seq.coilInstant = coil ∧ s.table.inhibitSet = ids ∧ s.seq.context = some c ∧ s.sense = x :=
  ⟨{ State.inPower p (State.inSeq q awake) with
      sense := x
      table := { awake.table with inhibitSet := ids }
      seq := { awake.seq with state := q, profile := some profile, coilInstant := coil, context := some c } },
    rfl, rfl, rfl, rfl, rfl, rfl, rfl, rfl⟩

theorem test_LineSample_met_times :
    (knownLines.sampled awake.sense.lines).time = 10 ∧ ((10 : Word32) - (-19)).toNat = 29 ∧
    ((10 : Word32) - (-20)).toNat = 30 ∧ ¬((10 : Word32) - 7).toNat < ((10 : Word32) - 7).toNat ∧
    ((10 : Word32) - 8).toNat < ((10 : Word32) - 7).toNat := by decide

theorem test_LineSample_met_loading :
    (∃ s : State, s.vsup = true ∧ s.power.state = .loading ∧ s.store.ready = false) ∧
    (∃ (s : State) (l : LineLevels), s.vsup = true ∧ s.power.state = .loading ∧ s.store.ready = true ∧
      (s.sense.sampled l).allKnown = false) ∧
    (∃ (s : State) (l : LineLevels), s.vsup = true ∧ s.power.state = .loading ∧ s.store.ready = true ∧
      (s.sense.sampled l).allKnown = true) :=
  ⟨⟨State.reset, rfl, rfl, rfl⟩,
    ⟨{ State.reset with store := { State.reset.store with ready := true } }, State.reset.sense.lines, rfl, rfl, rfl,
      by decide⟩,
    ⟨{ State.reset with sense := knownLines, store := { State.reset.store with ready := true } }, State.reset.sense.lines,
      rfl, rfl, rfl, by decide⟩⟩

/-- R96, R100: a tamper event with no transaction open, with one STAGING and with one VERIFYING. -/
theorem test_LineSample_met_tamper (x : UpdateState) :
    ∃ s : State, s.vsup = true ∧ s.power.state = .active ∧ s.engine.state = x ∧
      s.sense = { knownLines with lid := poised true } :=
  ⟨{ awake with engine := { awake.engine with state := x }, sense := { knownLines with lid := poised true } },
    rfl, rfl, rfl, rfl⟩

/-- R123: the main that opened before the coil instant keeps its last_open_time, both lines falling in one sample. -/
theorem test_openedBefore :
    let x := { knownLines with auxNeg := { poised false with runStamp := some 0 }, auxPos := poised false }
    let s : State := { State.inSeq .closed awake with sense := { x with time := 30 } }
    ∃ t, exec (.lineSample awake.sense.lines) s = .next t ∧ t.seq.state = .opening ∧
      t.seq.lastOpenPos = s.seq.lastOpenPos := by
  refine ⟨_, rfl, ?_⟩
  decide +kernel

/-! ## The Contactor Sequencer -/

/-- A write of each kind in flight, behind which a counter write request waits; with none in flight it starts. -/
theorem test_requested_met (s : State) :
    (s.store.inFlight = .none →
      (s.store.requested false s.snapshot).inFlight = .counter (s.store.nextCounterWrite false s.snapshot)) ∧
    (∀ w, s.store.inFlight = .bank w →
      (s.store.requested false s.snapshot).inFlight = .bank w ∧
        (s.store.requested false s.snapshot).counterPending = true) := by
  refine ⟨fun h => ?_, fun w h => ?_⟩ <;> simp [Store.requested, h]

/-- OPEN, in ACTIVE, with a profile. -/
def profiled : State := State.inSeq .opened awake

theorem test_Close_met :
    ((State.inPower .settling profiled).hands codeClose ∧ (State.inPower .settling profiled).power.state ≠ .active) ∧
    (awake.hands codeClose ∧ awake.seq.state = .opened ∧ awake.seq.profile = none) ∧
    (∃ s : State, s.hands codeClose ∧ s.seq.profile ≠ none ∧ s.table.inhibitSet ≠ []) ∧
    (∃ s : State, s.hands codeClose ∧ s.seq.profile ≠ none ∧ s.table.inhibitSet = [] ∧
      s.engine.state.inFlight = true ∧ s.stagedProfile? ≠ none) ∧
    (profiled.hands codeClose ∧ profiled.seq.profile = some profile ∧ profiled.table.inhibitSet = [] ∧
      profiled.engine.state.inFlight = false) :=
  ⟨⟨⟨arrives_of_begun _ rfl rfl rfl, rfl⟩, by decide⟩, ⟨awake_hands _, rfl, rfl⟩,
    ⟨{ profiled with table := { profiled.table with inhibitSet := [0] } }, hands_of_active _ _ rfl rfl rfl rfl,
      by decide, by decide⟩,
    ⟨{ profiled with engine := { profiled.engine with state := .writing, stage := [.profile profile] } },
      hands_of_active _ _ rfl rfl rfl rfl, by decide, rfl, rfl, by decide⟩,
    ⟨hands_of_active _ _ rfl rfl rfl rfl, rfl, rfl, rfl⟩⟩

theorem test_Clrlock_met :
    (profiled.hands codeClrlock ∧ profiled.seq.state ≠ .lockout) ∧
    ((State.inSeq .lockout awake).seq.state = .lockout ∧ (State.inSeq .lockout awake).sense.auxNeg.level ≠ some false) ∧
    (∃ s : State, s.hands codeClrlock ∧ s.seq.state = .lockout ∧ s.sense.auxNeg.level = some false ∧
      s.sense.auxPos.level = some false ∧ s.sense.crash.level = some false) :=
  ⟨⟨hands_of_active _ _ rfl rfl rfl rfl, by decide⟩, ⟨rfl, by decide⟩,
    ⟨{ State.inSeq .lockout awake with sense := knownLines }, hands_of_active _ _ rfl rfl rfl rfl, rfl, rfl, rfl, rfl⟩⟩

/-- The same with a write of any kind in flight. -/
theorem test_Clrlock_met_busy (x : InFlight) :
    ∃ s : State, s.hands codeClrlock ∧ s.seq.state = .lockout ∧ s.sense.auxNeg.level = some false ∧
      s.sense.auxPos.level = some false ∧ s.sense.crash.level = some false ∧ s.store.inFlight = x :=
  ⟨{ State.inSeq .lockout awake with sense := knownLines, store := { awake.store with inFlight := x } },
    hands_of_active _ _ rfl rfl rfl rfl, rfl, rfl, rfl, rfl, rfl⟩

/-- CLOSED, with the current point's latest value as given. -/
def closedWith (v : Int) : State :=
  State.inSeq .closed
    (State.holding 3 (.live current { normalLive with sample := some { value := v, frame := 0 } } none) awake)

theorem test_Open_met :
    (closedWith (-100)).hands codeOpen ∧ (closedWith (-100)).currentBreakable = true ∧
    ((closedWith 101).seq.state = .closed ∧ (closedWith 101).currentBreakable = false ∧
      (closedWith 101).seq.profile = some profile ∧ profile.deferMax ≠ 0) ∧
    (∃ (s : State) (p : Profile), s.hands codeOpen ∧ s.seq.state = .closed ∧ s.currentBreakable = false ∧
      s.seq.profile = some p ∧ p.deferMax = 0) ∧
    (∀ x : SeqState, (State.inSeq x awake).hands codeOpen ∧ (State.inSeq x awake).hands codeTrip ∧
      (State.inSeq x awake).seq.state = x) :=
  ⟨hands_of_active _ _ rfl rfl rfl rfl, by decide +kernel, ⟨rfl, by decide +kernel, rfl, by decide⟩,
    ⟨{ State.inSeq .closed awake with seq := { (State.inSeq .closed awake).seq with
        profile := some { profile with deferMax := 0 } } }, _, hands_of_active _ _ rfl rfl rfl rfl, rfl, by decide +kernel,
      rfl, rfl⟩,
    fun _ => ⟨hands_of_active _ _ rfl rfl rfl rfl, hands_of_active _ _ rfl rfl rfl rfl, rfl⟩⟩

def context (crash : Bool) : OpeningContext :=
  { firstCause := .requestedOpen, crashSeen := crash, negWasOn := true, posWasOn := true, deEnergizedAt := 0,
    loaded := false }

/-- OPENING, with the two auxiliary lines as given. -/
def opening (neg pos crash : Bool) : State :=
  let s := State.inSeq .opening awake
  { s with
    seq := { s.seq with context := some (context crash) }
    sense := { knownLines with
      auxNeg := { knownLines.auxNeg with level := some neg }, auxPos := { knownLines.auxPos with level := some pos } } }

theorem test_Expiries_met :
    (∀ x : SeqState, (State.inSeq x awake).vsup = true ∧ (State.inSeq x awake).seq.state = x) ∧
    (∀ crash, (opening true true crash).sense.auxPos.level = some true) ∧
    (∀ crash, (opening true false crash).sense.auxPos.level ≠ some true ∧
      (opening true false crash).sense.auxNeg.level = some true) ∧
    (∀ crash, (opening false false crash).sense.auxPos.level ≠ some true ∧
      (opening false false crash).sense.auxNeg.level ≠ some true ∧
      (opening false false crash).seq.context = some (context crash)) :=
  ⟨fun _ => ⟨rfl, rfl⟩, fun _ => rfl, fun _ => ⟨by simp [opening, knownLines], rfl⟩,
    fun _ => ⟨by simp [opening, knownLines], by simp [opening, knownLines], rfl⟩⟩

/-- The end of dropout with a write of any kind in flight. -/
theorem test_Expiries_met_busy (neg pos crash : Bool) (x : InFlight) :
    ∃ s : State, s.vsup = true ∧ s.seq.state = .opening ∧ s.seq.context = some (context crash) ∧
      s.sense.auxNeg.level = some neg ∧ s.sense.auxPos.level = some pos ∧ s.store.inFlight = x :=
  ⟨{ opening neg pos crash with store := { awake.store with inFlight := x } }, rfl, rfl, rfl, rfl, rfl, rfl⟩

/-- A sequencer state with one notice waiting. -/
def noticed (n : Notice) (s : State) : State := { s with table := { s.table with notices := [n] } }

theorem test_Notices_met :
    (∀ (x : SeqState) (n : Notice), (noticed n (State.inSeq x awake)).vsup = true ∧
      (noticed n (State.inSeq x awake)).table.notices = n :: [] ∧ (noticed n (State.inSeq x awake)).seq.state = x ∧
      (noticed n (State.inSeq x awake)).seq.profile = some profile ∧
      (noticed n (State.inSeq x awake)).table.inhibitSet = []) ∧
    ((-100 : Int).natAbs ≤ profile.breakLimit ∧ profile.breakLimit < (101 : Int).natAbs) ∧
    (∃ s : State, s.seq.state = .precharging ∧ s.valueOf profile.packPoint = some 41000 ∧
      (s.sense.time - s.seq.coilInstant).toNat < 10 * profile.minPrecharge) ∧
    (∃ s : State, s.seq.state = .precharging ∧ s.valueOf profile.packPoint = some 41000 ∧
      10 * profile.minPrecharge ≤ (s.sense.time - s.seq.coilInstant).toNat) ∧
    (100 * 36899 < profile.prechargeRatio * 41000 ∧ profile.prechargeRatio * 41000 ≤ 100 * 36900) := by
  refine ⟨fun _ _ => ⟨rfl, rfl, rfl, rfl, rfl⟩, by decide,
    ⟨State.inSeq .precharging (State.holding 1 (.live current trippedLive none) awake), rfl, by decide +kernel,
      by decide⟩,
    ⟨{ State.inSeq .precharging (State.holding 1 (.live current trippedLive none) awake) with
        sense := { awake.sense with time := 1000 } }, rfl, by decide +kernel, by decide⟩, by decide⟩

/-- PRECHARGING with ids in the inhibit set, at the end of the least precharge time; and with no pack value. -/
theorem test_Notices_met_inhibited :
    (∃ s : State, s.vsup = true ∧ s.table.notices = .reference profile.busPoint 36900 :: [] ∧
      s.seq.profile = some profile ∧ s.seq.state = .precharging ∧ s.valueOf profile.packPoint = some 41000 ∧
      10 * profile.minPrecharge ≤ (s.sense.time - s.seq.coilInstant).toNat ∧ s.table.inhibitSet = 4 :: [9]) ∧
    (∃ s : State, s.vsup = true ∧ s.table.notices = .reference profile.busPoint 36900 :: [] ∧
      s.seq.profile = some profile ∧ s.seq.state = .precharging ∧ s.valueOf profile.packPoint = none) := by
  let h := noticed (.reference profile.busPoint 36900)
    (State.inSeq .precharging (State.holding 1 (.live current trippedLive none) awake))
  refine ⟨⟨{ h with table := { h.table with inhibitSet := [4, 9] }, sense := { awake.sense with time := 1000 } },
      rfl, rfl, rfl, rfl, ?_, by decide, rfl⟩,
    ⟨noticed (.reference profile.busPoint 36900) (State.inSeq .precharging awake), rfl, rfl, rfl, rfl, ?_⟩⟩ <;>
    decide +kernel

/-! ## Power states -/

theorem test_Sleep_met :
    ((State.inSeq .closed awake).hands codeSleep ∧ (State.inSeq .closed awake).seq.state.atRest = false) ∧
    (∃ s : State, s.hands codeSleep ∧ s.power.state = .active ∧ s.seq.state.atRest = true ∧
      s.engine.state.inFlight = true) ∧
    (∃ s : State, s.hands codeSleep ∧ s.power.state = .active ∧ s.engine.state.inFlight = false ∧
      s.keyWriteInFlight = false ∧ s.sense.wake.level = some true) ∧
    ((slotZero true).hands codeSleep ∧ (slotZero true).sense.wake.level ≠ some true ∧
      (slotZero true).clock.phase = .slot 0 true) ∧
    (inTail.hands codeSleep ∧ inTail.power.state = .active ∧ inTail.seq.state.atRest = true ∧
      inTail.clock.phase = .tail ∧ inTail.clock.discoveryRunning = false) ∧
    ((staging (.remove 7)).hands codeSleep ∧ (staging (.remove 7)).engine.state = .staging) :=
  ⟨⟨hands_of_active _ _ rfl rfl rfl rfl, rfl⟩,
    ⟨{ awake with engine := { awake.engine with state := .writing } }, hands_of_active _ _ rfl rfl rfl rfl, rfl, rfl, rfl⟩,
    ⟨{ awake with sense := { knownLines with wake := { knownLines.wake with level := some true } } },
      hands_of_active _ _ rfl rfl rfl rfl, rfl, rfl, rfl, rfl⟩,
    ⟨hands_of_active _ _ rfl rfl rfl rfl, by decide, rfl⟩, ⟨inTail_hands _, rfl, rfl, rfl, rfl⟩,
    ⟨hands_of_active _ _ rfl rfl rfl rfl, rfl⟩⟩

theorem inTail_wake : inTail.sense.wake.level ≠ some true := by decide

/-- SLEEP in the tail, with a discovery running and with none, with the Store free and with any write but a key write in
flight. -/
theorem test_Sleep_met_quiet (running : Bool) (w : CounterWrite) :
    (∃ s : State, s.hands codeSleep ∧ s.power.state = .active ∧ s.seq.state.atRest = true ∧ s.clock.phase = .tail ∧
      s.sense.wake.level ≠ some true ∧ s.keyWriteInFlight = false ∧ s.clock.discoveryRunning = running ∧
      s.store.inFlight = .none) ∧
    (∃ s : State, s.hands codeSleep ∧ s.power.state = .active ∧ s.seq.state.atRest = true ∧ s.clock.phase = .tail ∧
      s.sense.wake.level ≠ some true ∧ s.keyWriteInFlight = false ∧ s.clock.discoveryRunning = running ∧
      s.store.inFlight = .counter w) :=
  ⟨⟨{ inTail with clock := { inTail.clock with discoveryRunning := running } }, hands_of_active _ _ rfl rfl rfl rfl, rfl, rfl,
      rfl, inTail_wake, rfl, rfl, rfl⟩,
    ⟨{ inTail with
        clock := { inTail.clock with discoveryRunning := running }, store := { awake.store with inFlight := .counter w } },
      hands_of_active _ _ rfl rfl rfl rfl, rfl, rfl, rfl, inTail_wake, rfl, rfl, rfl⟩⟩

theorem test_Wake_met :
    awake.hands codeWake ∧ (State.inPower .settling awake).hands codeWake ∧
      (State.inPower .sleepFrame awake).hands codeWake ∧ (State.inPower .deepSleep awake).hands codeWake :=
  ⟨awake_hands _, ⟨arrives_of_begun _ rfl rfl rfl, rfl⟩, ⟨arrives_of_begun _ rfl rfl rfl, rfl⟩, ⟨arrives_of_begun _ rfl rfl rfl, rfl⟩⟩

def counterWrite (settling : Bool) : CounterWrite :=
  { slot := .caA, sequence := 1, snapshot := .reset, forSettling := settling }

def writing (x : InFlight) (s : State) : State := { s with store := { s.store with inFlight := x } }

theorem test_SleepIsEntered_met :
    (∃ (s : State) (w : CounterWrite), s.vsup = true ∧ s.power.state = .settling ∧ s.store.inFlight = .counter w ∧
      w.forSettling = true ∧ s.power.wakeSet = .none ∧ s.power.reset = .none) ∧
    (∃ s : State, s.vsup = true ∧ s.power.state = .deepSleep ∧ s.power.sleepTimer = some 60) :=
  ⟨⟨writing (.counter (counterWrite true)) (State.inPower .settling awake), _, rfl, rfl, rfl, rfl, rfl, rfl⟩,
    ⟨{ awake with power := { awake.power with state := .deepSleep, sleepTimer := some 60 } }, rfl, rfl, rfl⟩⟩

theorem test_SleepIsEntered_met_return :
    ∃ (s : State) (w : CounterWrite), s.vsup = true ∧ s.power.state = .settling ∧ s.store.inFlight = .counter w ∧
      w.forSettling = true ∧ s.power.wakeSet ≠ .none ∧ s.power.reset = .none ∧ s.clock.phase = .stopped ∧
      s.engine.state ≠ .applying :=
  ⟨writing (.counter (counterWrite true))
      { awake with power := { awake.power with state := .settling, wakeSet := { WakeCauses.none with line := true } } },
    _, rfl, rfl, rfl, rfl, by decide, rfl, rfl, by decide⟩

/-- A sleep frame whose enumeration found one monitor, with this sleep-entry count and wake set and no point in the table. -/
def sleepEnumerated (count : Nat) (w : WakeCauses) : State :=
  let s := State.inPower .sleepFrame (enumerating true 1 .sleepFrame)
  { s with chain := { s.chain with sleepEntryCount := count }, power := { s.power with wakeSet := w } }

theorem sleepEnumerated_points (count : Nat) (w : WakeCauses) :
    (sleepEnumerated count w).sleepPoints = [] ∧ (sleepEnumerated count w).dueSleepAggregates = [] := by
  have h : ∀ id, (sleepEnumerated count w).point id = .vacant := reset_point
  exact ⟨idsWhere_none _ (fun id => by rw [h]; rfl), idsWhere_none _ (fun id => by rw [h]; rfl)⟩

theorem test_SleepEnumeration_met (w : WakeCauses) :
    ∃ (s : State) (e : Enumeration), s.vsup = true ∧ s.power.state = .sleepFrame ∧ s.chain.enumeration = some e ∧
      e.listening = true ∧ e.purpose = .sleepFrame ∧ s.chain.round = none ∧ s.sleepPoints = [] ∧
      s.dueSleepAggregates = [] ∧ s.power.wakeSet = w ∧ e.found < s.chain.sleepEntryCount ∧
      ¬e.found < (sleepEnumerated 1 w).chain.sleepEntryCount :=
  ⟨sleepEnumerated 2 w, _, rfl, rfl, rfl, rfl, rfl, rfl, (sleepEnumerated_points 2 w).1, (sleepEnumerated_points 2 w).2,
    rfl, (by decide : 1 < 2), (by decide : ¬1 < 1)⟩

/-- A CELL_V point that is kept through sleep, due in every sleep frame, and wakes the part. -/
def sleepingCell : Definition :=
  { cell .changeable with
    sleepDivider := some 1, actions := { report := true, inhibit := true, opens := true, wakes := true } }

/-- A sleep frame with such a point on monitor 2. -/
def sleepFrameWithCell : State := withMonitor (State.inPower .sleepFrame
  (State.holding 7 (.live sleepingCell normalLive none) awake))

theorem sleepFrameWithCell_points :
    sleepFrameWithCell.sleepPoints = [7] ∧ sleepFrameWithCell.dueSleepAggregates = [] := by
  have h1 := holding_idsWhere 7 (.live sleepingCell normalLive none) awake
    (fun p => p.liveDefinition?.any (fun d => !d.kind.isAggregate && d.sleepDueIn 0)) (by decide) reset_point rfl
  have h2 := holding_idsWhere 7 (.live sleepingCell normalLive none) awake
    (fun p => p.liveDefinition?.any (fun d => d.kind.isAggregate && d.sleepDueIn 0)) (by decide) reset_point rfl
  exact ⟨h1, h2⟩

theorem test_SleepRoundStarts_met :
    ∃ (s : State) (e : Enumeration) (x : Nat × Block) (rest : List (Nat × Block)), s.vsup = true ∧
      s.power.state = .sleepFrame ∧ s.chain.enumeration = some e ∧ e.listening = true ∧ e.purpose = .sleepFrame ∧
      s.chain.round = none ∧
      (∀ id ∈ s.sleepPoints, ∀ y, s.readEntry? id = some y → y.1 < e.found ∧ s.readable y.1 = true) ∧
      s.readQueue s.sleepPoints (fun a => decide (a < e.found) && s.readable a) = x :: rest := by
  let e : Enumeration := { purpose := .sleepFrame, listening := true, counting := true, found := 3 }
  let s : State :=
    { sleepFrameWithCell with chain := { sleepFrameWithCell.chain with enumeration := some e } }
  have hp : s.sleepPoints = [7] := sleepFrameWithCell_points.1
  have he : s.readEntry? 7 = some (2, .cells) := by decide +kernel
  have hr : s.readable 2 = true := by decide +kernel
  refine ⟨s, e, (2, .cells), [], rfl, rfl, rfl, rfl, rfl, rfl, ?_, ?_⟩
  · intro id hid y hy
    rw [hp] at hid
    cases List.mem_singleton.1 hid
    rw [he] at hy
    cases hy
    exact ⟨by decide, hr⟩
  · rw [hp]
    decide +kernel

/-- The reply that ends a sleep round, with the point's value at 41500 mV inside its band, at 41501 mV outside it. -/
theorem test_SleepRoundEnds_met :
    (∃ (s : State) (r : Read) (q : Round) (b : List Byte) (words : List Nat), s.vsup = true ∧
      s.power.state = .sleepFrame ∧ s.chain.read = some r ∧ r.owner = .round ∧ s.chain.round = some q ∧
      q.inSleep = true ∧ q.queue = [(r.address, r.block)] ∧ checkReply r s.chain.tag b = .good false words ∧
      s.dependents q.queue q.points = [7] ∧ s.point 7 = .live sleepingCell normalLive none ∧
      s.dueSleepAggregates = []) ∧
    (normalLive.judged sleepingCell 41500 0).condition = .normal ∧
    (normalLive.judged sleepingCell 41501 0).condition = .warn := by
  let r := roundRead (2, .cells)
  let q : Round := { cellRound with inSleep := true }
  let s : State := { sleepFrameWithCell with chain := { sleepFrameWithCell.chain with read := some r, round := some q } }
  let words : List Byte := (List.replicate 16 (le16 41501)).flatten
  refine ⟨⟨s, r, q, withCrc8 [0x85, 2, 0, 0, 0] ++ words ++ leWord16 (crc16 words), List.replicate 16 41501, rfl, rfl, rfl,
    rfl, rfl, rfl, rfl, ?_, ?_, ?_, sleepFrameWithCell_points.2⟩, by decide, by decide⟩
  · decide +kernel
  · decide +kernel
  · exact point_holding 7 (.live sleepingCell normalLive none) awake (by decide)

/-- The end of WAKING with a point that the wake transition moves, with one of slot 31, and with one that sleep kept. -/
theorem test_WakingEnds_met_points (d : Definition) (l : Live) :
    ∃ (e : Enumeration) (s : State), s.vsup = true ∧ s.power.state = .waking ∧ s.chain.enumeration = some e ∧
      e.listening = true ∧ e.purpose = .discovery .wake 0 ∧ s.clock.phase = .stopped ∧ s.engine.state ≠ .applying ∧
      s.clock.waiting = none ∧ 1 < s.clock.active.slotCount ∧ s.point 383 = .live d l none :=
  ⟨_, State.holding 383 (.live d l none) (State.inPower .waking (enumerating true 0 (.discovery .wake 0))), rfl, rfl, rfl,
    rfl, rfl, rfl, (by decide : UpdateState.idle ≠ .applying), rfl,
    (by decide : 1 < State.reset.clock.active.slotCount), point_holding 383 _ _ (by decide)⟩

theorem test_WakingEnds_met_slots :
    (cell .changeable).slot ≠ some 0 ∧ (cell .changeable).sleepDivider = none ∧ normalLive.condition = .normal ∧
      sleepingCell.slot ≠ some 0 ∧ sleepingCell.sleepDivider ≠ none ∧ trippedLive.condition = .tripped := by decide

theorem test_WakingEnds_met :
    ∃ (e : Enumeration) (s : State), s.vsup = true ∧ s.power.state = .waking ∧ s.chain.enumeration = some e ∧
      e.listening = true ∧ e.purpose = .discovery .wake 0 :=
  ⟨_, State.inPower .waking (enumerating true 0 (.discovery .wake 0)), rfl, rfl, rfl, rfl, rfl⟩

/-! ## The Nonvolatile Store -/

theorem test_CounterWriteEnds_met :
    ∃ (w : CounterWrite) (s : State), s.vsup = true ∧ s.store.inFlight = .counter w ∧ w.forSettling = false ∧
      s.store.counterPending = false ∧ s.store.suspended = none ∧ s.store.waiting = none ∧ s.power.reset ≠ .held :=
  ⟨counterWrite false, writing (.counter (counterWrite false)) awake, rfl, rfl, rfl, rfl, rfl, rfl, by decide⟩

/-- R150, R151, R198: a slot and a copy with their CRC-16 are read back, and one with a changed byte is not. -/
theorem test_areas :
    CounterSlot.decode (CounterSlot.encode 9 CounterSnapshot.reset) = .valid 9 .reset ∧
    CounterSlot.decode ((CounterSlot.encode 9 CounterSnapshot.reset).set 4 1) = .invalid ∧
    CounterSlot.decode (erasedArea 29) = .invalid ∧
    KeyCopy.decode (KeyCopy.encode 3 { key := none, finalLock := true }) = .valid 3 { key := none, finalLock := true } ∧
    KeyCopy.decode ((KeyCopy.encode 3 { key := none, finalLock := true }).set 0 4) = .bad ∧
    KeyCopy.decode (erasedArea 40) = .erased := by decide +kernel

def bankWrite (u : BankUnit) : BankWrite := { target := .bank1, version := 5, image := .blank, unit := u }

theorem test_BankWriteUnits_met :
    ∀ u : BankUnit, (writing (.bank (bankWrite u)) awake).vsup = true ∧
      (writing (.bank (bankWrite u)) awake).store.inFlight = .bank (bankWrite u) ∧ (bankWrite u).unit = u ∧
      awake.store.counterPending = false ∧ awake.store.suspended = none ∧ awake.store.waiting = none ∧
      awake.power.reset ≠ .held :=
  fun _ => ⟨rfl, rfl, rfl, rfl, rfl, rfl, by decide⟩

/-- What follows a counter write: a pending one, for SETTLING or not, a suspended bank write, a waiting one. -/
theorem test_CounterWriteEnds_met_next (settling : Bool) (u : BankUnit) (x : BankRequest) :
    (∃ s : State, s.vsup = true ∧ s.store.inFlight = .counter (counterWrite false) ∧ s.store.counterPending = true ∧
      s.store.settlingWaits = settling) ∧
    (∃ s : State, s.vsup = true ∧ s.store.inFlight = .counter (counterWrite false) ∧ s.store.counterPending = false ∧
      s.store.suspended = some (bankWrite u)) ∧
    (∃ s : State, s.vsup = true ∧ s.store.inFlight = .counter (counterWrite false) ∧ s.store.counterPending = false ∧
      s.store.suspended = none ∧ s.store.waiting = some x) := by
  let s := writing (.counter (counterWrite false)) awake
  exact ⟨⟨{ s with store := { s.store with counterPending := true, settlingWaits := settling } }, rfl, rfl, rfl, rfl⟩,
    ⟨{ s with store := { s.store with suspended := some (bankWrite u) } }, rfl, rfl, rfl, rfl⟩,
    ⟨{ s with store := { s.store with waiting := some x } }, rfl, rfl, rfl, rfl, rfl⟩⟩

/-- A unit that ends with a counter write pending; the units of the boundary pages among them. -/
theorem test_BankWriteUnits_met_pending (u : BankUnit) :
    (∃ s : State, s.vsup = true ∧ s.store.inFlight = .bank (bankWrite u) ∧ s.store.counterPending = true) ∧
    pageAddress 1 = 16 ∧ (BankUnit.page 31).ended true = .goOn (.page 32) ∧ (BankUnit.page 32).ended true = .goOn .check :=
  ⟨⟨{ writing (.bank (bankWrite u)) awake with
      store := { (writing (.bank (bankWrite u)) awake).store with counterPending := true } }, rfl, rfl, rfl⟩, by decide,
    by decide, by decide⟩

/-! ## The Update Engine and the Attention Unit -/

def someKey : Key := Vector.replicate 32 0x4A

/-- ACTIVE, with a key installed. -/
def keyed : State := { awake with engine := { awake.engine with key := some someKey } }

theorem test_Uopen_met :
    ((State.inPower .settling awake).arrives ∧ (State.inPower .settling awake).power.state ≠ .active) ∧
    ((State.inPower .loading awake).arrives ∧ (State.inPower .loading awake).power.state = .loading) ∧
    (awake.arrives ∧ awake.power.state = .active ∧ ([1] : List Byte).length ≠ 4) ∧
    ((staging (.remove 7)).arrives ∧ (staging (.remove 7)).engine.state ≠ .idle) ∧
    (awake.engine.state = .idle ∧ awake.engine.key = none) ∧
    (∃ s : State, s.arrives ∧ s.engine.state = .idle ∧ s.engine.key ≠ none ∧ s.engine.tamperLatch = true) ∧
    (keyed.arrives ∧ keyed.engine.key ≠ none ∧ keyed.engine.tamperLatch = false ∧
      (word32 [0, 0, 0, 0] 0).toNat ≤ keyed.store.activeVersion.toNat ∧
      keyed.store.activeVersion.toNat < (word32 [1, 0, 0, 0] 0).toNat) :=
  ⟨⟨arrives_of_begun _ rfl rfl rfl, by decide⟩, ⟨arrives_of_begun _ rfl rfl rfl, rfl⟩, ⟨arrives_of_begun _ rfl rfl rfl, rfl, by decide⟩,
    ⟨arrives_of_begun _ rfl rfl rfl, by decide⟩, ⟨rfl, rfl⟩,
    ⟨{ keyed with engine := { keyed.engine with tamperLatch := true } }, arrives_of_begun _ rfl rfl rfl, rfl, by decide, rfl⟩,
    ⟨arrives_of_begun _ rfl rfl rfl, by decide, rfl, by decide, by decide⟩⟩

theorem test_Ustage_met :
    let b : List Byte := [2, 7, 0]
    (∃ s : State, s.hands codeUstage ∧ ustageLengthOk b = true ∧ s.engine.state = .staging ∧
      Item.decode b = some (.remove 7) ∧ (Item.remove 7).wellFormed = true ∧ s.itemWaits (.remove 7) = false ∧
      s.engine.stage.findIdx? (Item.remove 7).sameTarget = some 0) ∧
    (∃ s : State, s.hands codeUstage ∧ s.engine.state = .staging ∧ s.itemWaits (.remove 7) = false ∧
      s.engine.stage.findIdx? (Item.remove 7).sameTarget = none ∧ s.engine.stage.length < 32) := by
  refine ⟨⟨staging (.remove 7), hands_of_active _ _ rfl rfl rfl rfl, ?_⟩,
    ⟨staging (.remove 6), hands_of_active _ _ rfl rfl rfl rfl, ?_⟩⟩
  all_goals decide +kernel

theorem test_CommitAndAbandon_met :
    ((staging (.remove 7)).hands codeUcommit ∧ (staging (.remove 7)).engine.state = .staging ∧
      (staging (.remove 7)).engine.stage ≠ [] ∧ (List.replicate 32 (0 : Byte)).length = 32) ∧
    (staging (.remove 7)).hands codeUabandon ∧
    (∃ s : State, s.hands codeUabandon ∧ s.engine.state = .verifying) :=
  ⟨⟨hands_of_active _ _ rfl rfl rfl rfl, rfl, by decide, rfl⟩, hands_of_active _ _ rfl rfl rfl rfl,
    ⟨{ awake with engine := { awake.engine with state := .verifying } }, hands_of_active _ _ rfl rfl rfl rfl, rfl⟩⟩

/-- VERIFYING one item under that key, with the tag given. -/
def verifying (x : Item) (tag : Option (List Byte)) : State :=
  { keyed with engine := { keyed.engine with
    state := .verifying, stage := [x], version := some 1, commitTag := tag } }

/-- The tag that the part expects of that commit. -/
def goodTag (x : Item) : List Byte := hmacSha256 someKey.toList (commitMessage 1 [x])

/-- The blank image, which is also the resulting image and table of a commit of the blank parameters on an empty part. -/
theorem verifying_images (t : Option (List Byte)) :
    (verifying (.frame .blank) t).resultingImage = Image.blank ∧
      (verifying (.frame .blank) t).resultingTable = Image.blank := by
  refine ⟨rfl, ?_⟩
  have h : (verifying (.frame .blank) t).table.points.map Point.merged? = Vector.replicate 384 none :=
    (Vector.map_replicate : (Vector.replicate 384 Point.vacant).map Point.merged? = _)
  simp only [State.resultingTable, State.tableImage, h]
  rfl

theorem blank_image_point (id : Nat) : Image.blank.point id = none := blank_point _ _ id

theorem blank_failing (ok : Definition → Bool) : Image.blank.failing ok = [] := by
  simp [Image.failing, blank_image_point]

theorem blank_anyShared : Image.blank.anyShared = false := by
  simp [Image.anyShared, blank_image_point]

theorem blank_slotBeyond (n : Nat) : Image.blank.slotBeyond n = false := by
  simp only [Image.slotBeyond, Image.blank, Vector.toList_replicate]
  exact List.any_eq_false.2 (fun x hx => by rw [List.eq_of_mem_replicate hx]; exact Bool.false_ne_true)

theorem verifying_valid (t : Option (List Byte)) : (verifying (.frame .blank) t).validate = none := by
  have h3 : (verifying (.frame .blank) t).checkMembers = none := by
    simp only [State.checkMembers, verifying_images, blank_failing]
    rfl
  have h4 : (verifying (.frame .blank) t).checkSource = none := by
    simp only [State.checkSource, verifying_images, blank_anyShared]
    rfl
  have h7 : (verifying (.frame .blank) t).checkSlot = none := by
    simp only [State.checkSlot, verifying_images, blank_slotBeyond]
    rfl
  simp only [State.validate, h3, h4, h7]
  rfl

theorem test_Verification_met :
    (verifying (.remove 7) none).engine.commitTag ≠ some (goodTag (.remove 7)) ∧
    (verifying (.remove 7) (some (goodTag (.remove 7)))).engine.commitTag =
      some (hmacSha256 (((verifying (.remove 7) none).engine.key.map (·.toList)).getD [])
        (commitMessage ((verifying (.remove 7) none).engine.version.getD 0) [.remove 7])) ∧
    (verifying (.remove 7) (some (goodTag (.remove 7)))).validate = some (.notStored, some 1) ∧
    (verifying (.frame .blank) (some (goodTag (.frame .blank)))).engine.state = .verifying ∧
    (verifying (.frame .blank) (some (goodTag (.frame .blank)))).validate = none ∧
    (verifying (.frame .blank) (some (goodTag (.frame .blank)))).store.inFlight = .none := by
  have h1 : ∀ t, (verifying (.remove 7) t).validate = some (.notStored, some 1) := by
    intro t; exact (by decide +kernel : (verifying (.remove 7) none).validate = some (.notStored, some 1))
  have h2 := verifying_valid
  exact ⟨by simp [verifying], rfl, h1 _, rfl, h2 _, rfl⟩

/-- A spread over these members. -/
def spread (members : List Nat) : Definition :=
  { cell .guarded with kind := .aggSpread, monitor := none, channel := none, slot := none, members := members }

/-- The image that stores these points. -/
def storing (points : List (Nat × Definition)) : Image :=
  points.foldl (fun i x => i.setPoint x.1 (some x.2)) Image.blank

/-- R171: a member that is not stored, 51, is laid to the aggregate's item, not to that of its other, new member. -/
theorem test_members_missing :
    let after := storing [(50, cell .guarded), (60, spread [50, 51])]
    after.membersOk after.stores (spread [50, 51]) = false ∧
      itemConcerns Image.blank after [(60, spread [50, 51])] (.point 50 (cell .guarded)) = false ∧
      itemConcerns Image.blank after [(60, spread [50, 51])] (.point 60 (spread [50, 51])) = true := by
  decide +kernel

/-- R171: a member of no cell kind is laid to the POINT item that gave it the kind, not to that of another member. -/
theorem test_members_kind :
    let after := storing [(50, cell .guarded), (51, current), (60, spread [50, 51])]
    itemConcerns Image.blank after [(60, spread [50, 51])] (.point 50 (cell .guarded)) = false ∧
      itemConcerns Image.blank after [(60, spread [50, 51])] (.point 51 current) = true ∧
      itemConcerns (storing [(51, current)]) after [(60, spread [50, 51])] (.point 51 current) = false := by
  decide +kernel

def keyWrite : KeyWrite :=
  { copy := .copyA, generation := 1, record := { key := some someKey, finalLock := false },
    requester := codeKeyinst }

theorem test_KeyWrites_met :
    (awake.engine.finalLock = false ∧ awake.keyRecordInForce.finalLock = false ∧ awake.storeBusy = false ∧
      awake.hands codeKeyinst ∧ (List.replicate 32 (1 : Byte)).length = 32 ∧ awake.engine.state = .idle) ∧
    (keyed.engine.finalLock = false ∧ keyed.keyRecordInForce.finalLock = false ∧ keyed.storeBusy = false ∧
      keyed.hands codeFinlock ∧ keyed.engine.key = some someKey) ∧
    (∃ s : State, s.vsup = true ∧ s.store.inFlight = .key keyWrite ∧ s.store.counterPending = false ∧
      s.store.suspended = none ∧ s.store.waiting = none ∧ s.power.reset ≠ .held ∧
      s.port.slot = .waiting keyWrite.requester) ∧
    (∃ s : State, s.vsup = true ∧ s.store.inFlight = .key keyWrite ∧ s.port.slot ≠ .waiting keyWrite.requester) :=
  ⟨⟨rfl, rfl, rfl, awake_hands _, rfl, rfl⟩, ⟨rfl, rfl, rfl, hands_of_active _ _ rfl rfl rfl rfl, rfl⟩,
    ⟨writing (.key keyWrite) { awake with port := { awake.port with slot := .waiting codeKeyinst } },
      rfl, rfl, rfl, rfl, rfl, by decide, rfl⟩,
    ⟨writing (.key keyWrite) awake, rfl, rfl, by decide⟩⟩

def tampered (s : State) : State := { s with engine := { s.engine with tamperLatch := true } }

theorem hmacSha256_length (k m : List Byte) : (hmacSha256 k m).length = 32 := by
  simp [hmacSha256, sha256_length]

theorem test_Clrtamp_met :
    (awake.hands codeClrtamp ∧ awake.engine.tamperLatch = false) ∧
    ((tampered awake).hands codeClrtamp ∧ (tampered awake).engine.tamperLatch = true ∧
      (tampered awake).engine.key = none) ∧
    ((tampered keyed).hands codeClrtamp ∧ (tampered keyed).engine.tamperLatch = true ∧
      (tampered keyed).engine.key ≠ none ∧
      ∃ b : List Byte, b.length = 32 ∧
        b = hmacSha256 (((tampered keyed).engine.key.map (·.toList)).getD [])
          ([0xA7] ++ deviceBytes ++ leWord32 (tampered keyed).engine.tamperCount)) ∧
    (∃ b : List Byte, b.length = 32 ∧
      b ≠ hmacSha256 (((tampered keyed).engine.key.map (·.toList)).getD [])
        ([0xA7] ++ deviceBytes ++ leWord32 (tampered keyed).engine.tamperCount)) := by
  refine ⟨⟨awake_hands _, rfl⟩, ⟨hands_of_active _ _ rfl rfl rfl rfl, rfl, rfl⟩,
    ⟨hands_of_active _ _ rfl rfl rfl rfl, rfl, by decide, ⟨_, hmacSha256_length _ _, rfl⟩⟩, ?_⟩
  by_cases h : List.replicate 32 (0 : Byte) = hmacSha256 (((tampered keyed).engine.key.map (·.toList)).getD [])
      ([0xA7] ++ deviceBytes ++ leWord32 (tampered keyed).engine.tamperCount)
  · refine ⟨List.replicate 32 1, rfl, fun h' => ?_⟩
    exact absurd (h.trans h'.symm) (by decide)
  · exact ⟨List.replicate 32 0, rfl, h⟩

/-- CLRTAMP with a bank write in flight, in update state WRITING. -/
theorem test_Clrtamp_met_busy (u : BankUnit) :
    ∃ s : State, s.hands codeClrtamp ∧ s.engine.tamperLatch = true ∧ s.engine.key ≠ none ∧
      s.engine.state = .writing ∧ s.store.inFlight = .bank (bankWrite u) :=
  ⟨writing (.bank (bankWrite u))
      { keyed with engine := { keyed.engine with tamperLatch := true, state := .writing } },
    hands_of_active _ _ rfl rfl rfl rfl, rfl, (by decide : keyed.engine.key ≠ none), rfl, rfl⟩

theorem test_Mask_met :
    (awake.arrives ∧ awake.power.state = .active) ∧
    ((State.inPower .settling awake).arrives ∧ (State.inPower .settling awake).power.state = .settling) ∧
    ((State.inPower .loading awake).arrives ∧ (State.inPower .loading awake).power.state = .loading) ∧
    ([] : List Byte).length ≠ 1 :=
  ⟨⟨arrives_of_begun _ rfl rfl rfl, rfl⟩, ⟨arrives_of_begun _ rfl rfl rfl, rfl⟩, ⟨arrives_of_begun _ rfl rfl rfl, rfl⟩, by decide⟩

theorem test_StatusAndIdent_met :
    State.reset.arrives ∧ State.reset.power.state ≠ .deepSleep ∧ State.reset.power.state ≠ .sleepFrame :=
  ⟨⟨rfl, Or.inr ⟨rfl, rfl⟩⟩, by decide, by decide⟩

end Sys2Proof.Tests
end

/-! The requests on points (chapter 1): ENLIST, LOOKUP, AMEND, AMENDG and RETIRE. Each owner's answers are said once,
and a request is settled by the owner's answer and the path of a request (Laws/Port). -/

namespace Sys2Proof.Proofs

open Sys2Proof.Machine Sys2Proof.Laws

/-! ### The id of a body (R1) -/

/-- R1, R196: the id of a body is read back from its two bytes. -/
theorem bodyId_le16 (id : Nat) (h : id < 65536) : bodyId (le16 id) = id := by
  simp only [bodyId, u16, u8, le16, List.getD_cons_zero, List.getD_cons_succ, BitVec.toNat_ofNat]
  omega

theorem withId_of_le {b : List Byte} (owner : Nat → State → State × Reply) (s : State) (h : bodyId b ≤ 383) :
    withId b owner s = owner (bodyId b) s := if_pos h

theorem withId_of_gt {b : List Byte} (owner : Nat → State → State × Reply) (s : State) (h : 383 < bodyId b) :
    withId b owner s = refuse .badArgument s := if_neg (Nat.not_le.2 h)

/-- R1: the owner of a request whose body is an id of the table takes that id. -/
theorem withId_le16 (id : Nat) (owner : Nat → State → State × Reply) (s : State) (h : id ≤ 383) :
    withId (le16 id) owner s = owner id s := by
  have hid : bodyId (le16 id) = id := bodyId_le16 id (by omega)
  rw [withId_of_le owner s (by rw [hid]; exact h), hid]

/-! ### Slots (R5) -/

theorem slotFits_iff (s : State) (slot : Option Nat) :
    s.slotFits slot = true ↔ ∀ k, slot = some k → k < s.smallestSlotCount := by
  cases slot <;> simp [State.slotFits]

theorem isVacant_iff (p : Point) : p.isVacant = true ↔ p = .vacant := by
  cases p <;> simp [Point.isVacant]

/-! ### ENLIST (R18) -/

section Enlist

variable {b : List Byte} {id : Nat} {s : State}

theorem takeEnlist_exists (h : s.point id ≠ .vacant) : takeEnlist b id s = refuse .exists_ s := by
  have hv : (s.point id).isVacant = false := by rw [Bool.eq_false_iff, ne_eq, isVacant_iff]; exact h
  simp [takeEnlist, hv]

theorem takeEnlist_staged (h : s.point id = .vacant) (hs : s.enlistStaged id b = true) :
    takeEnlist b id s = refuse .staged s := by
  simp [takeEnlist, h, Point.isVacant, hs]

theorem takeEnlist_notEnlistable (h : s.point id = .vacant) (hs : s.enlistStaged id b = false)
    (hd : ∀ d, Definition.decode (b.drop 2) = some d → s.enlistable d = false) :
    takeEnlist b id s = refuse .badArgument s := by
  cases hb : Definition.decode (b.drop 2) with
  | none => simp [takeEnlist, h, Point.isVacant, hs, hb]
  | some d => simp [takeEnlist, h, Point.isVacant, hs, hb, hd d hb]

theorem takeEnlist_slotRange {d : Definition} {k : Nat} (h : s.point id = .vacant) (hs : s.enlistStaged id b = false)
    (hd : Definition.decode (b.drop 2) = some d) (he : s.enlistable d = true) (hk : d.slot = some k)
    (hr : s.smallestSlotCount ≤ k) : takeEnlist b id s = refuse .slotRange s := by
  have hf : ¬ s.slotFits d.slot = true := fun hf => Nat.not_lt.2 hr ((slotFits_iff s d.slot).1 hf k hk)
  simp [takeEnlist, h, Point.isVacant, hs, hd, he, hf]

theorem takeEnlist_accepted {d : Definition} (h : s.point id = .vacant) (hs : s.enlistStaged id b = false)
    (hd : Definition.decode (b.drop 2) = some d) (he : s.enlistable d = true)
    (hk : ∀ k, d.slot = some k → k < s.smallestSlotCount) :
    takeEnlist b id s = (s.setPoint id (.enlisting d), .now .accepted []) := by
  have hf : s.slotFits d.slot = true := (slotFits_iff s d.slot).2 hk
  simp [takeEnlist, h, Point.isVacant, hs, hd, he, hf]

end Enlist

/-- ENLIST is taken by its owner when its body fits (R187). -/
theorem exec_enlist (b : List Byte) (s : State) (h : enlistLengthOk b = true) :
    exec (.enlist b) s = request codeEnlist b true (withId b (takeEnlist b)) s := by
  show request codeEnlist b (enlistLengthOk b) _ s = _
  rw [h]

/-- Settles O20: the owner of ENLIST meets the state with the write transaction ended, on which its tests do not depend;
each clause is one of its answers. -/
theorem enlistTakesOrIsRefused : Obligations.EnlistTakesOrIsRefused := by
  intro b s hh hlen refused id free
  have owner (hid : id ≤ 383) := withId_of_le (takeEnlist b) (received b.length s) (b := b) hid
  have refuses (a : AnswerCode)
      (h : withId b (takeEnlist b) (received b.length s) = refuse a (received b.length s)) : refused a :=
    (exec_enlist b s hlen).trans (request_refuses _ _ _ _ _ hh h)
  refine ⟨fun hid => ?_, fun hid hp => ?_, fun hid hp hs => ?_, fun ⟨hid, hp, hs⟩ hd => ?_,
    fun d k ⟨hid, hp, hs⟩ hd he hk hr => ?_, fun d ⟨hid, hp, hs⟩ hd he hk => ?_⟩
  · exact refuses _ (withId_of_gt _ _ hid)
  · exact refuses _ ((owner hid).trans (takeEnlist_exists hp))
  · exact refuses _ ((owner hid).trans (takeEnlist_staged hp hs))
  · exact refuses _ ((owner hid).trans (takeEnlist_notEnlistable hp hs hd))
  · exact refuses _ ((owner hid).trans (takeEnlist_slotRange hp hs hd he hk hr))
  · exact (exec_enlist b s hlen).trans
      (request_answers _ _ _ _ _ _ _ hh ((owner hid).trans (takeEnlist_accepted hp hs hd he hk)))

/-! ### LOOKUP (R19) -/

theorem takeLookup_vacant {id : Nat} {s : State} (h : s.point id = .vacant) :
    takeLookup id s = refuse .noPoint s := by
  simp [takeLookup, h, Point.isVacant]

theorem takeLookup_record {id : Nat} {s : State} (h : s.point id ≠ .vacant) :
    takeLookup id s = (s, .now .done (lookupBody id (s.point id))) := by
  have hv : ¬ (s.point id).isVacant = true := fun hv => h ((isVacant_iff _).1 hv)
  exact if_neg hv

/-- 11.4: the record of an ENLISTING point. -/
theorem lookupBody_enlisting (id : Nat) (d : Definition) :
    lookupBody id (.enlisting d) =
      le16 id ++ [1] ++ d.encode ++ ([0xFF] ++ List.replicate 24 0) ++ List.replicate 28 0 := rfl

/-- 11.4: the record of a LIVE point. -/
theorem lookupBody_live (id : Nat) (d : Definition) (l : Live) (p : Option PendingPart) :
    lookupBody id (.live d l p) = le16 id ++ [2] ++ d.encode ++ l.encode ++ pendingBytes p := rfl

/-- Settles O21: LOOKUP answers from the record alone, and an id of the table is read back from its bytes. -/
theorem lookupReportsTheRecord : Obligations.LookupReportsTheRecord := by
  intro id s hh hid
  have owner := withId_le16 id takeLookup (received 2 s) hid
  have record (p : Point) (hp : s.point id = p) (hv : p ≠ .vacant) :
      exec (.lookup (le16 id)) s = .next (s.answered codeLookup 2 .done (lookupBody id p)) := by
    subst hp
    exact request_answers _ _ _ _ s _ _ hh (owner.trans (takeLookup_record (s := received 2 s) hv))
  refine ⟨fun hp => ?_, fun d hp => ?_, fun d l p hp => ?_⟩
  · exact request_refuses _ _ _ _ _ hh (owner.trans (takeLookup_vacant hp))
  · rw [record _ hp (by simp), lookupBody_enlisting]
  · rw [record _ hp (by simp), lookupBody_live]

/-! ### RETIRE (R22, R23) -/

/-- R22: what RETIRE answers on a LIVE point, its tests in their order. -/
theorem takeRetire_live {id : Nat} {d : Definition} {l : Live} {p : Option PendingPart} {s : State}
    (h : s.point id = .live d l p) :
    takeRetire id s =
      if p = some .retire then (s, .now .accepted [])
      else if d.guard = .guarded then refuse .guarded s
      else if s.staged id then refuse .staged s
      else if s.inUse id then refuse .inUse s
      else if l.condition = .tripped then refuse .latched s
      else (s.setPoint id (.live d l (some .retire)), .now .accepted []) := by
  simp only [takeRetire, h]

/-- Settles O23: each clause is one branch of what RETIRE answers on a LIVE point. -/
theorem retireMarksThePoint : Obligations.RetireMarksThePoint := by
  intro id d l p s hh hid hp refused unmarked free
  have owner : withId (le16 id) takeRetire (received 2 s) = _ :=
    (withId_le16 id takeRetire (received 2 s) hid).trans (takeRetire_live hp)
  have refuses (a : AnswerCode)
      (h : withId (le16 id) takeRetire (received 2 s) = refuse a (received 2 s)) : refused a :=
    request_refuses _ _ _ _ _ hh h
  have guard (hg : d.guard = .changeable) : d.guard ≠ .guarded := by rw [hg]; decide
  have stage (h : s.staged id = false) : ¬ (received 2 s).staged id = true := by rw [received_staged, h]; decide
  have use (h : s.inUse id = false) : ¬ (received 2 s).inUse id = true := Bool.eq_false_iff.1 h
  refine ⟨fun hr => ?_, fun hu hg => ?_, fun hu hg hs => ?_, fun ⟨hu, hg, hs⟩ hi => ?_,
    fun ⟨hu, hg, hs⟩ hi hc => ?_, fun ⟨hu, hg, hs⟩ hi hc => ?_⟩
  · exact refuses _ (owner.trans (if_pos hr))
  · refine refuses _ (owner.trans ?_)
    rw [if_neg hu, if_pos hg]
  · refine refuses _ (owner.trans ?_)
    rw [if_neg hu, if_neg (guard hg), received_staged, if_pos hs]
  · refine refuses _ (owner.trans ?_)
    rw [if_neg hu, if_neg (guard hg), if_neg (stage hs)]
    exact if_pos hi
  · refine refuses _ (owner.trans ?_)
    rw [if_neg hu, if_neg (guard hg), if_neg (stage hs), if_neg (use hi), if_pos hc]
  · refine request_answers _ _ _ _ _ _ _ hh (owner.trans ?_)
    rw [if_neg hu, if_neg (guard hg), if_neg (stage hs), if_neg (use hi), if_neg hc]
    rfl

/-! ### AMEND and AMENDG (R12, R20, R21) -/

/-- R20: an AMEND that no refusal meets. -/
theorem takeAmend_accepted {b : List Byte} {id : Nat} {d : Definition} {l : Live} {p : Option PendingPart} {c : Change}
    {s : State} (hp : s.point id = .live d l p) (hg : d.guard = .changeable) (hs : s.staged id = false)
    (hc : Change.decode (b.drop 2) = some c) (hok : s.changeOk c d p = true)
    (hk : ∀ k, c.slot = some k → k < s.smallestSlotCount) (hr : p ≠ some .retire) :
    takeAmend b id s = (s.setPoint id (.live d l (mergePending c p)), .now .accepted []) := by
  have hf : s.slotFits c.slot = true := (slotFits_iff s c.slot).2 hk
  simp [takeAmend, hp, hg, hs, hc, hok, hf, hr]

/-- R21: an AMENDG that no refusal meets. -/
theorem takeAmendg_accepted {b : List Byte} {k : Kind} {first last : Nat} {c : Change} {s : State}
    (hb : groupBody? b = some (k, first, last, c)) (hs : ∀ id ∈ s.groupTargets k first last, s.staged id = false)
    (hok : ∀ id ∈ s.groupTargets k first last, (s.point id).groupOk c = true) :
    takeAmendg b s =
      ((s.groupTargets k first last).foldl (State.mergeAt c) s,
        .now (if s.groupTargets k first last = [] then .done else .accepted)
          (le16 (s.groupTargets k first last).length)) := by
  have h1 : (s.groupTargets k first last).any s.staged = false := List.any_eq_false.2 (fun id h => by simp [hs id h])
  have h2 : (s.groupTargets k first last).all (fun id => (s.point id).groupOk c) = true := List.all_eq_true.2 hok
  simp [takeAmendg, hb, h1, h2]

/-- R12: what a merge makes of a record. -/
def amended (c : Change) : Point → Point
  | .live d l p => .live d l (mergePending c p)
  | .vacant => .vacant
  | .enlisting d => .enlisting d

theorem point_mergeAt (c : Change) (s : State) (id x : Nat) :
    (s.mergeAt c id).point x = if x = id then amended c (s.point id) else s.point x := by
  unfold State.mergeAt
  split <;> rename_i h
  · have hl := lt_of_point_ne_vacant s id (by simp [h])
    rw [point_setPoint]
    simp [hl, amended, h]
  · by_cases hx : x = id <;> simp [hx, amended, h]
  · by_cases hx : x = id <;> simp [hx, amended, h]

/-- A merge does not see the port. -/
theorem mergeAt_of_port (c : Change) (s : State) (p : Port) (id : Nat) :
    State.mergeAt c { s with port := p } id = { s.mergeAt c id with port := p } := by
  unfold State.mergeAt
  rw [show ({ s with port := p } : State).point id = s.point id from rfl]
  split <;> rfl

theorem mergeAll_of_port (c : Change) (ids : List Nat) (s : State) (p : Port) :
    ids.foldl (State.mergeAt c) { s with port := p } = { ids.foldl (State.mergeAt c) s with port := p } := by
  induction ids generalizing s with
  | nil => rfl
  | cons a rest ih => rw [List.foldl_cons, List.foldl_cons, mergeAt_of_port, ih]

/-- Merges write the records of the table and nothing else. -/
theorem mergeAll_writes (c : Change) (ids : List Nat) (s : State) :
    ∃ points, ids.foldl (State.mergeAt c) s = { s with table := { s.table with points := points } } := by
  induction ids generalizing s with
  | nil => exact ⟨s.table.points, rfl⟩
  | cons a rest ih =>
    have ha : ∃ points, s.mergeAt c a = { s with table := { s.table with points := points } } := by
      unfold State.mergeAt
      split <;> exact ⟨_, rfl⟩
    obtain ⟨written, hw⟩ := ha
    rw [List.foldl_cons, hw]
    exact ih _

/-- R21: merges into several points write each of them once, and no other. -/
theorem point_mergeAll (c : Change) (ids : List Nat) (hn : ids.Nodup) (s : State) (x : Nat) :
    (ids.foldl (State.mergeAt c) s).point x = if x ∈ ids then amended c (s.point x) else s.point x :=
  point_foldl _ (fun _ _ p => amended c p) (fun _ => True) (fun s id x _ => point_mergeAt c s id x)
    (fun _ _ _ => trivial) (fun _ _ _ _ _ => rfl) ids s trivial hn x

theorem exec_amend (b : List Byte) (s : State) (h : b.length = 29) :
    exec (.amend b) s = request codeAmend b true (withId b (takeAmend b)) s := by
  show request codeAmend b (b.length == 29) _ s = _
  rw [h]
  rfl

theorem exec_amendg (b : List Byte) (s : State) (h : b.length = 30) :
    exec (.amendg b) s = request codeAmendg b true (takeAmendg b) s := by
  show request codeAmendg b (b.length == 30) _ s = _
  rw [h]
  rfl

/-- R21: everything an AMENDG does that no refusal meets. -/
theorem exec_amendg_accepted {b : List Byte} {k : Kind} {first last : Nat} {c : Change} {s : State}
    (hh : s.hands codeAmendg) (hlen : b.length = 30) (hb : groupBody? b = some (k, first, last, c))
    (hs : ∀ id ∈ s.groupTargets k first last, s.staged id = false)
    (hok : ∀ id ∈ s.groupTargets k first last, (s.point id).groupOk c = true) :
    exec (.amendg b) s =
      .next (State.answered codeAmendg b.length (if s.groupTargets k first last = [] then .done else .accepted)
        (le16 (s.groupTargets k first last).length) ((s.groupTargets k first last).foldl (State.mergeAt c) s)) := by
  have owner := takeAmendg_accepted (s := received b.length s) hb hs hok
  have port := mergeAll_of_port c (s.groupTargets k first last) s (received b.length s).port
  exact (exec_amendg b s hlen).trans (request_answers _ _ _ _ _ _ _ hh (owner.trans (congrArg (·, _) port)))

/-- Settles O22: AMEND by its owner's answer; AMENDG by the fold of its merges over the targets, which writes each
target once, no other point, and nothing outside the records. -/
theorem amendmentsMergeIntoPendingParts : Obligations.AmendmentsMergeIntoPendingParts := by
  intro s
  constructor
  · intro b id d l p c hh hlen hid hle hp hg hs hc hok hk hr
    subst hid
    have owner := (withId_of_le (takeAmend b) (received b.length s) (b := b) hle).trans
      (takeAmend_accepted (s := received b.length s) hp hg hs hc hok hk hr)
    rw [exec_amend b s hlen,
      request_answers _ _ _ _ (s.setPoint (bodyId b) (.live d l (mergePending c p))) _ _ hh owner, hlen]
    rfl
  · intro b k first last c hh hlen hb hs hok targets
    have hn : targets.Nodup := idsWhere_nodup _
    have hpoint := point_mergeAll c targets hn s
    obtain ⟨points, hrest⟩ := mergeAll_writes c targets s
    refine ⟨_, exec_amendg_accepted hh hlen hb hs hok, fun id d l p hid hp => ?_, fun id hid => ?_, rfl, ?_⟩
    · exact (hpoint id).trans (by rw [if_pos hid, hp]; rfl)
    · exact (hpoint id).trans (if_neg hid)
    · rw [hrest]
      exact ⟨rfl, rfl, rfl, rfl, rfl, rfl, rfl, rfl, rfl, rfl, rfl⟩

end Sys2Proof.Proofs

/-! The frame start (R55): what it applies and opens, and the end of WAKING, which makes the wake transition of the
points and opens the next frame (R144). -/

namespace Sys2Proof.Proofs

open Sys2Proof.Machine Sys2Proof.Laws

/-! ### Events -/

/-- `t` differs from `s` in the levels of the pins alone. -/
structure SameButPins (s t : State) : Prop where
  table : t.table = s.table
  clock : t.clock = s.clock
  chain : t.chain = s.chain
  seq : t.seq = s.seq
  power : t.power = s.power
  store : t.store = s.store
  attention : t.attention = s.attention

theorem SameButPins.point {s t : State} (h : SameButPins s t) (id : Nat) : t.point id = s.point id :=
  point_of_table s t (congrArg (·.points) h.table) id

/-- A supplied part takes the effect of an event, and the pins follow it. The state it ends in is given by its fields, so
that no proof has to compare it with the effect, unfolded. -/
theorem event_takes (f : State → State) (s : State) (h : s.vsup = true) :
    ∃ t, event f s = .next t ∧ SameButPins (f s) t :=
  ⟨_, event_of_supply f s h, drive_table _, drive_clock _, drive_chain _, drive_seq _, drive_power _, drive_store _,
    drive_attention _⟩

/-! ### The parts of a frame start (R55, R56, R62, R174) -/

/-- R56: the application of the pending parameters writes the Frame Clock alone. -/
theorem applyParams_rest (s : State) : s.applyParams = { s with clock := s.applyParams.clock } := by
  unfold State.applyParams
  split <;> rfl

theorem applyParams_waiting {s : State} {p : PendingParams} (h : s.clock.waiting = some p) :
    s.applyParams.clock =
      { s.clock with
        active :=
          { s.clock.active with
            frameLength := p.frameLength, slotCount := p.slotCount, sleepPeriod := p.sleepPeriod }
        waiting := none } := by
  unfold State.applyParams
  rw [h]

theorem applyParams_none {s : State} (h : s.clock.waiting = none) : s.applyParams = s := by
  unfold State.applyParams
  rw [h]

/-- R174: with no commit in APPLYING nothing is applied. -/
theorem applyCommit_none {s : State} (h : s.engine.state ≠ .applying) : s.applyCommit = s := by
  unfold State.applyCommit
  split
  · rename_i ha; exact absurd ha h
  all_goals rfl

/-- `t` goes on with the frame count, the power states and the cause POWER of `s`. -/
structure SameCount (s t : State) : Prop where
  number : t.clock.number = s.clock.number
  opened : t.clock.opened = s.clock.opened
  power : t.power = s.power
  cause : t.attention.set.power = s.attention.set.power

theorem SameCount.refl (s : State) : SameCount s s := ⟨rfl, rfl, rfl, rfl⟩

theorem SameCount.trans {s t u : State} (h : SameCount s t) (k : SameCount t u) : SameCount s u :=
  ⟨k.number.trans h.number, k.opened.trans h.opened, k.power.trans h.power, k.cause.trans h.cause⟩

theorem sameCount_of_applies {s t : State} (h : OnlyApplies s t) : SameCount s t :=
  ⟨by rw [h.clock], by rw [h.clock], h.power, by rw [h.attention]⟩

theorem sameCount_of_runs {s t : State} (h : OnlyRuns s t) : SameCount s t :=
  ⟨h.number, h.opened, h.power, h.powerCause⟩

/-- Judgement outside a sleep frame. -/
theorem sameCount_of_judges {s t : State} (h : OnlyJudges s t) (hp : s.power.state ≠ .sleepFrame) : SameCount s t :=
  ⟨by rw [h.clock], by rw [h.clock], h.awake hp, by rw [h.attention]⟩

theorem sameCount_foldl {α : Type} (f : State → α → State) (h : ∀ s x, SameCount s (f s x)) (xs : List α) (s : State) :
    SameCount s (xs.foldl f s) := by
  induction xs generalizing s with
  | nil => exact .refl _
  | cons x rest ih => exact (h s x).trans (ih _)

theorem applyParams_count (s : State) : SameCount s s.applyParams := by
  unfold State.applyParams
  split <;> exact ⟨rfl, rfl, rfl, rfl⟩

theorem applyPointItem_count (s : State) (id : Nat) (d : Definition) : SameCount s (s.applyPointItem id d) := by
  unfold State.applyPointItem
  split <;> exact sameCount_of_applies (setPoint_applies _ _ _)

theorem applyGroupAt_count (s : State) (g : GroupItem) (id : Nat) : SameCount s (s.applyGroupAt g id) := by
  unfold State.applyGroupAt
  split
  · split
    · exact sameCount_of_applies (setPoint_applies _ _ _)
    · exact .refl _
  · exact .refl _
  · exact .refl _

theorem applyItem_count (s : State) (x : Item) : SameCount s (s.applyItem x) := by
  cases x with
  | point id d => exact applyPointItem_count s id d
  | remove id => exact sameCount_of_applies (vacate_applies s id)
  | group g => exact sameCount_foldl _ (fun t id => applyGroupAt_count t g id) tableIds s
  | profile p => exact ⟨rfl, rfl, rfl, rfl⟩
  | frame f => exact ⟨rfl, rfl, rfl, rfl⟩

theorem applyCommit_count (s : State) : SameCount s s.applyCommit := by
  unfold State.applyCommit
  split
  · exact (sameCount_foldl _ applyItem_count s.engine.stage s).trans ⟨rfl, rfl, rfl, rfl⟩
  all_goals exact .refl _

/-- R62: the decision on discovery touches the ring and three flags of the Frame Clock. -/
theorem decideDiscovery_rest (s : State) :
    s.decideDiscovery =
      { s with
        chain := s.decideDiscovery.chain
        clock :=
          { s.clock with
            given := s.decideDiscovery.clock.given
            discoveryRunning := s.decideDiscovery.clock.discoveryRunning
            discoveryPending := s.decideDiscovery.clock.discoveryPending } } := by
  unfold State.decideDiscovery
  split
  · rfl
  · split <;> rfl

/-! ### The records at the opening of a frame (R55, steps 1 to 5) -/

/-- R55: the state in which slot 0 of a new frame starts. -/
def opening (s : State) : State := s.applyParams.applyPoints.applyCommit.refreshAllInhibits.openNumber.decideDiscovery

theorem openFrame_eq (s : State) : s.openFrame = (opening s).startSlot 0 := rfl

/-- What the opening of a frame adds to its applications: the number, the timer and the decision on discovery. -/
structure OpensOn (t u : State) : Prop where
  number : u.clock.number = t.clock.nextNumber
  opened : u.clock.opened = true
  timer : u.clock.timer = some t.clock.active.frameLength
  active : u.clock.active = t.clock.active
  waiting : u.clock.waiting = t.clock.waiting
  table : u.table = t.table
  power : u.power = t.power
  attention : u.attention = t.attention

theorem openNumber_opensOn (t : State) : OpensOn t t.openNumber.decideDiscovery := by
  rw [decideDiscovery_rest]
  constructor <;> rfl

theorem opening_opensOn (s : State) : OpensOn s.applyParams.applyPoints.applyCommit.refreshAllInhibits (opening s) :=
  openNumber_opensOn _

/-- R52: whatever a frame start applies, the frame count goes on by one, and the part stays in ACTIVE. -/
theorem opening_counts {s : State} (ha : s.power.state = .active) :
    (opening s).clock.number = s.clock.nextNumber ∧ (opening s).power = s.power ∧
      (opening s).attention.set.power = s.attention.set.power := by
  have h := ((applyParams_count s).trans (sameCount_of_applies (applyPoints_applies _))).trans (applyCommit_count _)
  have hj := sameCount_of_judges (refreshAllInhibits_judges s.applyParams.applyPoints.applyCommit)
    (by rw [h.power, ha]; decide)
  have k := h.trans hj
  have o := opening_opensOn s
  refine ⟨?_, o.power.trans k.power, (congrArg (·.set.power) o.attention).trans k.cause⟩
  rw [o.number]
  unfold FrameClock.nextNumber
  rw [k.opened, k.number]

/-- With no commit in APPLYING only the pending parts and parameters are applied. -/
theorem applications_eq {s : State} (h : s.engine.state ≠ .applying) :
    s.applyParams.applyPoints.applyCommit = s.applyParams.applyPoints := by
  apply applyCommit_none
  rw [(applyPoints_applies _).engine, applyParams_rest]
  exact h

/-- R48, R53, R56: the parameters of the new frame, with no commit in APPLYING. -/
theorem opening_params {s : State} (h : s.engine.state ≠ .applying) :
    (opening s).clock.active = s.applyParams.clock.active ∧
      (opening s).clock.waiting = s.applyParams.clock.waiting := by
  have hc : s.applyParams.applyPoints.applyCommit.refreshAllInhibits.clock =
      { s.applyParams.clock with tail := s.applyParams.applyPoints.clock.tail } := by
    rw [(refreshAllInhibits_judges _).clock, applications_eq h, (applyPoints_applies _).clock]
  rw [(opening_opensOn s).active, (opening_opensOn s).waiting, hc]
  exact ⟨rfl, rfl⟩

/-- R14 to R16: the records of the new frame, with no commit in APPLYING. -/
theorem point_opening {s : State} (h : s.engine.state ≠ .applying) (id : Nat) :
    (opening s).point id = applied s id (s.point id) := by
  have hs : s.applyParams.store = s.store := by rw [applyParams_rest]
  have hp : s.applyParams.point id = s.point id := point_of_table _ _ (by rw [applyParams_rest]) id
  have happ : applied s.applyParams id (s.point id) = applied s id (s.point id) := by
    unfold applied
    split <;> simp only [amendedFrom_of_store s s.applyParams hs]
  have ht := (opening_opensOn s).table
  rw [point_of_table _ _ (congrArg (·.points) ht), point_refreshAllInhibits, applications_eq h, point_applyPoints, hp,
    happ]
  split
  · rfl
  · rename_i hid
    have hv : s.point id = .vacant :=
      Classical.byContradiction fun hv => hid (lt_of_point_ne_vacant s id hv)
    rw [hv]
    rfl

/-- R39: the inhibit set of the new frame holds exactly the points that belong in it. -/
theorem mem_inhibitSet_opening {s : State} (id : Nat) (hid : id < 384) :
    id ∈ (opening s).table.inhibitSet ↔ ((opening s).point id).inhibits = true := by
  have ht := (opening_opensOn s).table
  rw [point_of_table _ _ (congrArg (·.points) ht), point_refreshAllInhibits, ht]
  exact mem_refreshAllInhibits _ id hid

/-- R53: the timer of the new frame is armed with its length. -/
theorem opening_timer (s : State) : (opening s).clock.timer = some (opening s).clock.active.frameLength := by
  rw [(opening_opensOn s).timer, (opening_opensOn s).active]

/-! ### A frame start in ACTIVE -/

/-- What every frame start in ACTIVE that opens a frame does to the frame count, the power states and POWER. -/
theorem openFrame_counts {s : State} (ha : s.power.state = .active) :
    s.openFrame.clock.number = s.clock.nextNumber ∧ s.openFrame.clock.opened = true ∧ s.openFrame.power = s.power ∧
      s.openFrame.attention.set.power = s.attention.set.power := by
  obtain ⟨hn, hp, hc⟩ := opening_counts ha
  have r := startSlot_runs (opening s) 0 (by rw [hp, ha])
  exact ⟨r.number.trans hn, r.opened.trans (opening_opensOn s).opened, r.power.trans hp, r.powerCause.trans hc⟩

/-- R66: the cut of the tail item in flight leaves the frame count, the records and the parameters. -/
theorem cutTail_rest (s : State) :
    s.cutTail =
      { s with
        chain := s.cutTail.chain
        sense := s.cutTail.sense
        clock := { s.clock with tailInFlight := s.cutTail.clock.tailInFlight } } := by
  unfold State.cutTail
  split <;> rfl

/-- R55: a frame start in ACTIVE ends the frame it finds and opens the next. -/
theorem frameStart_active {s : State} (ha : s.endFrame.power.state = .active) :
    s.frameStart = s.endFrame.openFrame := by
  unfold State.frameStart
  rw [if_neg (by rw [ha]; decide)]

theorem exec_frameStart_tail {s : State} (hv : s.vsup = true) (ha : s.power.state = .active)
    (ht : s.clock.phase = .tail) : ∃ t, exec .frameStart s = .next t ∧ SameButPins s.cutTail.openFrame t := by
  have he : s.endFrame = s.cutTail := by unfold State.endFrame; rw [ht]
  have hx : s.frameTimerExpired = s.frameStart := by unfold State.frameTimerExpired; rw [ht]
  have hf : s.frameStart = s.cutTail.openFrame := by
    rw [frameStart_active (by rw [he, cutTail_rest]; exact ha), he]
  rw [← hf, ← hx]
  exact event_takes State.frameTimerExpired s hv

/-- R56: no pending parameters are left behind a frame start. -/
theorem applyParams_waiting_none (s : State) : s.applyParams.clock.waiting = none := by
  cases h : s.clock.waiting with
  | none => rw [applyParams_none h, h]
  | some p => rw [applyParams_waiting h]

/-- R48, R53: the parameters of the frame opened and its timer, with no commit in APPLYING. -/
theorem openFrame_params {s : State} (ha : s.power.state = .active) (h : s.engine.state ≠ .applying) :
    s.openFrame.clock.active = s.applyParams.clock.active ∧ s.openFrame.clock.waiting = none ∧
      s.openFrame.clock.timer = some s.openFrame.clock.active.frameLength := by
  obtain ⟨_, hp, _⟩ := opening_counts ha
  obtain ⟨hact, hw⟩ := opening_params h
  have htimer := opening_timer s
  have r := startSlot_runs (opening s) 0 (by rw [hp, ha])
  rw [openFrame_eq]
  generalize (opening s).startSlot 0 = t at r ⊢
  generalize opening s = u at hact hw htimer r
  refine ⟨r.active.trans hact, (r.waiting.trans hw).trans (applyParams_waiting_none s), ?_⟩
  rw [r.timer, r.active, htimer]

/-- R14 to R16: the records of the frame opened, up to what slot 0 judges, with no commit in APPLYING. -/
theorem openFrame_records {s : State} (ha : s.power.state = .active) (h : s.engine.state ≠ .applying) (id : Nat) :
    (s.openFrame.point id).liveDefinition? = (applied s id (s.point id)).liveDefinition? ∧
      (s.openFrame.point id = .vacant ↔ applied s id (s.point id) = .vacant) := by
  obtain ⟨_, hp, _⟩ := opening_counts ha
  have r := startSlot_runs (opening s) 0 (by rw [hp, ha])
  rw [← point_opening h id]
  exact ⟨r.definitions id, r.vacant id⟩

/-- Settles O32: a frame start in TAIL cuts the tail item in flight, which leaves records and parameters alone, and
opens the next frame; slot 0 then keeps definitions, vacancies and parameters. -/
theorem frameStartAppliesAndOpens : Obligations.FrameStartAppliesAndOpens := by
  intro s hv ha ht he
  obtain ⟨t, hexec, same⟩ := exec_frameStart_tail hv ha ht
  refine ⟨t, hexec, ?_⟩
  have hcut := cutTail_rest s
  have hactive : s.cutTail.power.state = .active := by rw [hcut]; exact ha
  have hengine : s.cutTail.engine.state ≠ .applying := by rw [hcut]; exact he
  have hpoint : ∀ id, s.cutTail.point id = s.point id := fun id => point_of_table _ _ (by rw [hcut]) id
  have hnumber : s.cutTail.clock.nextNumber = s.clock.nextNumber := by rw [hcut]; rfl
  have hwaiting : s.cutTail.clock.waiting = s.clock.waiting := by rw [hcut]
  have hparams : s.cutTail.clock.active = s.clock.active := by rw [hcut]
  obtain ⟨number, opened, _, _⟩ := openFrame_counts hactive
  obtain ⟨active, waiting, timer⟩ := openFrame_params hactive hengine
  have records := openFrame_records hactive hengine
  rw [← same.clock] at number opened active waiting timer
  simp only [← same.point] at records
  refine ⟨number.trans hnumber, opened, waiting, fun p hp => ?_, fun hn => ?_, timer, fun id d hp => ?_,
    fun id d l c hp => ?_, fun id d l hp => ?_, fun id d l hp => ?_⟩
  · refine active.trans ?_
    rw [applyParams_waiting (hwaiting.trans hp), hparams]
  · refine active.trans ?_
    rw [applyParams_none (hwaiting.trans hn), hparams]
  · refine (records id).1.trans ?_
    rw [hpoint, hp]
    rfl
  · refine (records id).1.trans ?_
    rw [hpoint, hp]
    rfl
  · refine (records id).2.2 ?_
    rw [hpoint, hp]
    rfl
  · refine (records id).1.trans ?_
    rw [hpoint, hp]
    rfl

/-! ### The end of WAKING (R25, R144, R145) -/

/-- The state in which the end of WAKING finds the part: the roster rebuilt, CHAIN raised as required (R81). -/
def discovered (cause : DiscoveryCause) (found c : Nat) (s : State) : State :=
  (s.rebuildRoster cause found c).raiseIf (decide (found < c) || decide (c < found)) .chain

theorem discovered_rest (cause : DiscoveryCause) (found c : Nat) (s : State) :
    (discovered cause found c s).table = s.table ∧ (discovered cause found c s).power = s.power ∧
      (discovered cause found c s).engine = s.engine ∧
      (discovered cause found c s).clock = { s.clock with discoveryRunning := false } := by
  unfold discovered State.raiseIf
  split <;> exact ⟨rfl, rfl, rfl, rfl⟩

theorem exec_silence_waking {e : Enumeration} {cause : DiscoveryCause} {c : Nat} {s : State} (hv : s.vsup = true)
    (hw : s.power.state = .waking) (he : s.chain.enumeration = some e) (hl : e.listening = true)
    (hp : e.purpose = .discovery cause c) :
    ∃ t, exec .enumSilenceExpiry s = .next t ∧ SameButPins (discovered cause e.found c s).finishWaking t := by
  have hx : s.enumSilenceExpired = s.discoveryEnded cause e.found c := by
    unfold State.enumSilenceExpired
    simp only [he, hl, hp, if_true]
  have hd : s.discoveryEnded cause e.found c = (discovered cause e.found c s).finishWaking := by
    obtain ⟨_, hpower, _, _⟩ := discovered_rest cause e.found c s
    show (discovered cause e.found c s).afterDiscovery = _
    unfold State.afterDiscovery
    rw [hpower, hw]
  rw [← hd, ← hx]
  exact event_takes State.enumSilenceExpired s hv

/-- R55, R60: the end of the frame that a frame start in ACTIVE finds. -/
theorem endFrame_count {s : State} (ha : s.power.state = .active) : SameCount s s.endFrame := by
  unfold State.endFrame
  split
  · have h := overrun_runs s ha
    exact (sameCount_of_runs h).trans
      (sameCount_of_judges (judgeAggregates_judges _ _) (by rw [h.power, ha]; decide))
  · rw [cutTail_rest]
    exact ⟨rfl, rfl, rfl, rfl⟩
  · exact .refl s

/-- R52: every frame start in ACTIVE goes on with the frame count and keeps the power states and POWER. -/
theorem frameStart_counts {s : State} (ha : s.power.state = .active) :
    s.frameStart.clock.number = s.clock.nextNumber ∧ s.frameStart.clock.opened = true ∧
      s.frameStart.power = s.power ∧ s.frameStart.attention.set.power = s.attention.set.power := by
  have k := endFrame_count ha
  have hactive : s.endFrame.power.state = .active := by rw [k.power, ha]
  obtain ⟨hn, ho, hp, hc⟩ := openFrame_counts hactive
  rw [frameStart_active hactive]
  refine ⟨hn.trans ?_, ho, hp.trans k.power, hc.trans k.cause⟩
  unfold FrameClock.nextNumber
  rw [k.opened, k.number]

/-- R14, R39, R57: a frame start out of STOPPED, with no commit in APPLYING and no pending parameters, keeps a LIVE
point without pending part that slot 0 does not sample, and brings its place in the inhibit set up to date. -/
theorem frameStart_keeps {s : State} (ha : s.power.state = .active) (hs : s.clock.phase = .stopped)
    (he : s.engine.state ≠ .applying) (hw : s.clock.waiting = none) (hk : 1 < s.clock.active.slotCount) {id : Nat}
    {d : Definition} {l : Live} (hp : s.point id = .live d l none) (hd : d.slot ≠ some 0) :
    s.frameStart.point id = .live d l none ∧
      (id ∈ s.frameStart.table.inhibitSet ↔ (Point.live d l none).inhibits = true) := by
  have hend : s.endFrame = s := by unfold State.endFrame; rw [hs]
  have hfs : s.frameStart = (opening s).startSlot 0 := by
    rw [frameStart_active (by rw [hend]; exact ha), hend, openFrame_eq]
  have hid : id < 384 := lt_of_point_ne_vacant s id (by rw [hp]; simp)
  have hpoint : (opening s).point id = .live d l none := by rw [point_opening he, hp]; rfl
  have hout : id ∉ (opening s).slotPoints 0 := by
    intro h
    have := ((mem_idsWhere _ id).1 h).2
    rw [hpoint] at this
    simp [Point.liveDefinition?, hd] at this
  have hcount : 0 + 1 < (opening s).clock.active.slotCount := by
    rw [(opening_params he).1, applyParams_none hw]
    exact hk
  obtain ⟨h1, h2⟩ := startSlot_elsewhere (opening s) 0 id hcount hout
  rw [hfs]
  refine ⟨h1.trans hpoint, h2.trans ?_⟩
  rw [mem_inhibitSet_opening id hid, hpoint]

/-- R25: the conditions that become IDLE at wake. -/
theorem losesAtWake_iff (c : Condition) : c.losesAtWake = true ↔ c = .normal ∨ c = .warn ∨ c = .stale := by
  cases c <;> simp [Condition.losesAtWake]

/-- R25: what the wake transition makes of a LIVE point without sleep part that loses its condition. -/
theorem woken_moves {d : Definition} {l : Live} (hd : d.sleepDivider = none)
    (hc : l.condition = .normal ∨ l.condition = .warn ∨ l.condition = .stale) :
    woken (.live d l none) = .live d l.woken none := by
  simp [woken, hd, (losesAtWake_iff l.condition).2 hc]

/-- R25: a kept, an IDLE and a TRIPPED point stay as they were. -/
theorem woken_stays {d : Definition} {l : Live}
    (h : ¬(d.sleepDivider = none ∧ (l.condition = .normal ∨ l.condition = .warn ∨ l.condition = .stale))) :
    woken (.live d l none) = .live d l none := by
  have hn : ¬(d.sleepDivider.isNone && l.condition.losesAtWake) = true := by
    rw [Bool.and_eq_true, Option.isNone_iff_eq_none, losesAtWake_iff]
    exact h
  rw [woken, if_neg hn]

/-- R39: an IDLE point belongs in the inhibit set exactly when it inhibits. -/
theorem inhibits_woken (d : Definition) (l : Live) :
    (Point.live d l.woken none).inhibits = true ↔ d.actions.inhibit = true := by
  simp [Point.inhibits, Live.woken]

theorem inhibits_live_iff (d : Definition) (l : Live) :
    (Point.live d l none).inhibits = true ↔
      (d.actions.inhibit = true ∧ l.condition ≠ .normal) ∨ (d.actions.opens = true ∧ l.condition = .tripped) := by
  simp [Point.inhibits]

/-- R144, R145: the state in which the end of WAKING starts its frame: the wake record written, POWER raised, ACTIVE. -/
def awakened (t : State) : State :=
  ((t.writeRecord
    { causes := t.power.wakeSet, firstPoint := t.power.firstPoint, sleepFrames := t.power.sleepFrame,
      entryFrame := t.power.entryFrame }).raise .power).setPower .active

theorem finishWaking_frameStart (s : State) : s.finishWaking = (awakened s.wakeTransition).frameStart :=
  finishWaking_eq s _ rfl

theorem awakened_rest (t : State) :
    (awakened t).table = t.table ∧ (awakened t).clock = t.clock ∧ (awakened t).engine = t.engine ∧
      (awakened t).attention.set.power = true ∧
      (awakened t).power =
        { t.power with
          state := .active, wakeSet := .none, firstPoint := none
          record :=
            { causes := t.power.wakeSet, firstPoint := t.power.firstPoint, sleepFrames := t.power.sleepFrame,
              entryFrame := t.power.entryFrame } } := ⟨rfl, rfl, rfl, rfl, rfl⟩

/-- Settles O50: the end of WAKING is the wake transition, the wake record with POWER, and a frame start in ACTIVE,
which goes on with the frame count and keeps the points that slot 0 does not sample. -/
theorem wakingEndsInActive : Obligations.WakingEndsInActive := by
  intro e cause c s hv hw he hl hp
  obtain ⟨t, hexec, same⟩ := exec_silence_waking hv hw he hl hp
  refine ⟨t, hexec, ?_⟩
  obtain ⟨dtable, dpower, dengine, dclock⟩ := discovered_rest cause e.found c s
  have dpoint := point_of_table s (discovered cause e.found c s) (by rw [dtable])
  obtain ⟨upoint, _, upower, uclock, uengine, _⟩ :=
    wakeTransition_wakes (discovered cause e.found c s) (by rw [dpower, hw]; decide)
  rw [finishWaking_frameStart] at same
  generalize (discovered cause e.found c s).wakeTransition = u at upoint upower uclock uengine same
  rw [dpower] at upower
  rw [dclock] at uclock
  rw [dengine] at uengine
  obtain ⟨atable, aclock, aengine, acause, apower⟩ := awakened_rest u
  rw [upower] at apower
  rw [uclock] at aclock
  have hactive : (awakened u).power.state = .active := by rw [apower]
  obtain ⟨number, opened, power, raised⟩ := frameStart_counts hactive
  rw [apower] at power
  rw [acause] at raised
  have nextNumber : (awakened u).clock.nextNumber = s.clock.nextNumber := by rw [aclock]; rfl
  have keeps := @frameStart_keeps (awakened u) hactive
  rw [← same.clock] at number opened
  rw [← same.power] at power
  rw [← same.attention] at raised
  simp only [← same.point, ← same.table] at keeps
  refine ⟨congrArg (·.state) power, congrArg (·.record) power, congrArg (·.wakeSet) power, raised, opened,
    number.trans nextNumber, fun hs hengine hwait hcount id d l hpt hslot => ?_⟩
  have keep := @keeps (by rw [aclock]; exact hs) (by rw [aengine, uengine]; exact hengine)
    (by rw [aclock]; exact hwait) (by rw [aclock]; exact hcount) id
  have apoint : (awakened u).point id = woken (.live d l none) := by
    rw [point_of_table u _ (by rw [atable]), upoint id (lt_of_point_ne_vacant s id (by rw [hpt]; simp)), dpoint, hpt]
  refine ⟨fun hm => ?_, fun hm => ?_⟩
  · obtain ⟨hpoint, hset⟩ := keep (apoint.trans (woken_moves hm.1 hm.2)) hslot
    exact ⟨hpoint, hset.trans (inhibits_woken d l)⟩
  · obtain ⟨hpoint, hset⟩ := keep (apoint.trans (woken_stays hm)) hslot
    exact ⟨hpoint, hset.trans (inhibits_live_iff d l)⟩

end Sys2Proof.Proofs

/-! The end of the load (R24, R128, R157 to R160): the blocks that STORE_LOAD_END builds, and what the line events that
may follow it leave of them. -/

namespace Sys2Proof.Proofs

open Sys2Proof.Machine Sys2Proof.Laws

/-! ### What the sequencer and the tamper event leave of the selection (R101, R157) -/

/-- The selection of the load and the live profile stand. -/
structure SameSelection (s t : State) : Prop where
  ready : t.store.ready = s.store.ready
  activeBank : t.store.activeBank = s.store.activeBank
  bank0 : t.store.bank0 = s.store.bank0
  bank1 : t.store.bank1 = s.store.bank1
  profile : t.seq.profile = s.seq.profile

theorem SameSelection.refl (s : State) : SameSelection s s := ⟨rfl, rfl, rfl, rfl, rfl⟩

theorem SameSelection.trans {s t u : State} (h : SameSelection s t) (k : SameSelection t u) : SameSelection s u :=
  ⟨k.ready.trans h.ready, k.activeBank.trans h.activeBank, k.bank0.trans h.bank0, k.bank1.trans h.bank1,
    k.profile.trans h.profile⟩

/-- The image of the active bank is that of the selection. -/
theorem SameSelection.activeImage {s t : State} (h : SameSelection s t) : t.activeImage = s.activeImage := by
  have hb : ∀ b, t.bank b = s.bank b := by
    intro b
    cases b
    · exact h.bank0
    · exact h.bank1
  unfold State.activeImage
  rw [h.activeBank]
  simp only [hb]

/-- R152: a counter write request moves the arbiter alone. -/
theorem requestCounterWrite_selection (s : State) (f : Bool) : SameSelection s (s.requestCounterWrite f) := by
  have h := requestCounterWrite_store s f
  have hq := requestCounterWrite_seq s f
  generalize s.requestCounterWrite f = t at h hq
  constructor
  · rw [h]
  · rw [h]
  · rw [h]
  · rw [h]
  · rw [hq]

theorem recorded_selection (s : State) (q : Sequencer) (h : q.profile = s.seq.profile) :
    SameSelection s ({ s with seq := q } : State).recorded := by
  rw [← requestCounterWrite_raise]
  have k := requestCounterWrite_selection { s with seq := q } false
  exact ⟨k.ready, k.activeBank, k.bank0, k.bank1, k.profile.trans h⟩

theorem enterOpening_selection (s : State) (c : Cause) : SameSelection s (s.enterOpening c) := by
  unfold State.enterOpening State.countLoaded
  simp only
  split <;> exact ⟨rfl, rfl, rfl, rfl, rfl⟩

theorem lockoutAtRest_selection (s : State) (c : LockoutCause) (last : Cause) :
    SameSelection s (s.lockoutAtRest c last) := by
  unfold State.lockoutAtRest
  rw [enterLockout_eq]
  exact recorded_selection s _ rfl

theorem recordOpen_selection (s : State) (m : Main) (stamp : Word32) : SameSelection s (s.recordOpen m stamp) := by
  unfold State.recordOpen
  split
  · exact .refl s
  · split
    · exact .refl s
    · cases m <;> simp only <;> split <;> exact ⟨rfl, rfl, rfl, rfl, rfl⟩

theorem recordClose_selection (s : State) (m : Main) (stamp : Word32) : SameSelection s (s.recordClose m stamp) := by
  cases m <;> exact ⟨rfl, rfl, rfl, rfl, rfl⟩

theorem unlessInhibited_selection (s : State) (go : State → State) (h : ∀ x, SameSelection x (go x)) :
    SameSelection s (s.unlessInhibited go) := by
  unfold State.unlessInhibited
  split
  · exact h s
  · exact enterOpening_selection s _

theorem enterPrecharging_selection (s : State) : SameSelection s s.enterPrecharging := ⟨rfl, rfl, rfl, rfl, rfl⟩

theorem enterClosed_selection (s : State) : SameSelection s s.enterClosed := by
  rw [enterClosed_eq]
  exact recorded_selection s _ rfl

theorem auxEdge_selection (s : State) (m : Main) (closed : Bool) (stamp : Word32) :
    SameSelection s (s.auxEdge m closed stamp) := by
  have closes (n : Main) (go : State → State) (h : ∀ x, SameSelection x (go x)) :
      SameSelection s ((s.recordClose n stamp).unlessInhibited go) :=
    (recordClose_selection s n stamp).trans (unlessInhibited_selection _ go h)
  unfold State.auxEdge
  split
  · exact lockoutAtRest_selection ..
  · exact .refl s
  · split
    · exact closes .neg _ enterPrecharging_selection
    · exact enterOpening_selection ..
  · exact enterOpening_selection ..
  · exact .refl s
  · exact enterOpening_selection ..
  · exact enterOpening_selection ..
  · exact .refl s
  · exact .refl s
  · split
    · exact closes .pos _ enterClosed_selection
    · exact enterOpening_selection ..
  · exact enterOpening_selection ..
  · exact .refl s
  · exact .refl s
  · exact enterOpening_selection ..
  · exact .refl s
  · exact enterOpening_selection ..
  · exact .refl s
  · exact recordOpen_selection ..
  · exact .refl s
  · exact .refl s

theorem crashAtSequencer_selection (s : State) : SameSelection s s.crashAtSequencer := by
  unfold State.crashAtSequencer
  split
  · exact lockoutAtRest_selection ..
  · exact enterOpening_selection ..
  · exact enterOpening_selection ..
  · exact enterOpening_selection ..
  · exact enterOpening_selection ..
  · exact enterOpening_selection ..
  · exact ⟨rfl, rfl, rfl, rfl, rfl⟩
  · exact .refl s

/-! ### Line events in DISCOVERING (R97 to R100, R129) -/

/-- `t` differs from `s` by line events in DISCOVERING: the blocks that the load built stand. -/
structure KeepsLoad (s t : State) : Prop where
  selection : SameSelection s t
  table : t.table = s.table
  clock : t.clock = s.clock
  chain : t.chain = s.chain
  power : t.power = s.power

theorem KeepsLoad.refl (s : State) : KeepsLoad s s := ⟨.refl s, rfl, rfl, rfl, rfl⟩

theorem KeepsLoad.trans {s t u : State} (h : KeepsLoad s t) (k : KeepsLoad t u) : KeepsLoad s u :=
  ⟨h.selection.trans k.selection, k.table.trans h.table, k.clock.trans h.clock, k.chain.trans h.chain,
    k.power.trans h.power⟩

theorem keepsLoad_of_sequences {s t : State} (h : OnlySequences s t) (k : SameSelection s t) : KeepsLoad s t :=
  ⟨k, h.table, h.clock, h.chain, h.power⟩

theorem auxChange_keepsLoad (s : State) (m : Main) (x : Option (Bool × Word32)) : KeepsLoad s (s.auxChange m x) := by
  refine keepsLoad_of_sequences (auxChange_sequences s m x) ?_
  unfold State.auxChange
  split
  · exact auxEdge_selection ..
  · exact .refl s

/-- In DISCOVERING a wake cause is not gathered. -/
theorem gather_discovering {s : State} (x : WakeName) (h : s.power.state = .discovering) : s.gather x = s :=
  gather_awake s x (.inr (.inl h))

theorem crashEvent_keepsLoad {s : State} (h : s.power.state = .discovering) : KeepsLoad s s.crashEvent := by
  have k := keepsLoad_of_sequences (crashAtSequencer_sequences s) (crashAtSequencer_selection s)
  unfold State.crashEvent
  rw [gather_discovering _ (by rw [k.power, h])]
  exact k

/-- R180: a tamper event at the Update Engine. -/
theorem tamperAtEngine_keepsLoad (s : State) : KeepsLoad s s.tamperAtEngine := by
  have ends : ∀ u : State, KeepsLoad u u.endTampered := by
    intro u
    unfold State.endTampered
    split <;> exact ⟨⟨rfl, rfl, rfl, rfl, rfl⟩, rfl, rfl, rfl, rfl⟩
  have latched (e : Engine) : KeepsLoad s (({ s with engine := e } : State).requestCounterWrite false) := by
    obtain ⟨h1, h2, h3, h4, h5⟩ := requestCounterWrite_selection { s with engine := e } false
    exact ⟨⟨h1, h2, h3, h4, h5⟩, requestCounterWrite_table _ _, requestCounterWrite_clock _ _,
      requestCounterWrite_chain _ _, requestCounterWrite_power _ _⟩
  have raised (u : State) (c : CauseName) : KeepsLoad u (u.raise c) := ⟨⟨rfl, rfl, rfl, rfl, rfl⟩, rfl, rfl, rfl, rfl⟩
  exact ((latched _).trans (raised _ .tamper)).trans (ends _)

theorem tamperEvent_keepsLoad {s : State} (h : s.power.state = .discovering) : KeepsLoad s s.tamperEvent := by
  have k := tamperAtEngine_keepsLoad s
  unfold State.tamperEvent
  rw [gather_discovering _ (by rw [k.power, h])]
  exact k

/-- R96, R128: the line events at the end of LOADING reach their owners in DISCOVERING, and the blocks built stand. -/
theorem lineEvents_keepsLoad {s : State} (x : LineChanges) (h : s.power.state = .discovering) :
    KeepsLoad s (s.lineEvents x) := by
  have high (y : Option (Bool × Word32)) (f : State → State) (u : State) (hu : KeepsLoad s u)
      (hf : ∀ t : State, t.power.state = .discovering → KeepsLoad t (f t)) : KeepsLoad s (u.onHigh y f) :=
    onHigh_keeps (KeepsLoad s) y f u hu (fun t ht => ht.trans (hf t (by rw [ht.power, h])))
  have aux := (auxChange_keepsLoad s .neg x.auxNeg).trans (auxChange_keepsLoad _ .pos x.auxPos)
  have crash := high x.crash State.crashEvent _ aux (fun t ht => crashEvent_keepsLoad ht)
  have wake := high x.wake (fun t => t.gather .line) _ crash
    (fun t ht => by rw [gather_discovering _ ht]; exact .refl t)
  exact high x.lid State.tamperEvent _ wake (fun t ht => tamperEvent_keepsLoad ht)

/-! ### The blocks built (R24, R48, R101) -/

/-- `t` holds the blocks built from the selection of a load on the banks of `x`. -/
structure BuiltFrom (x : Store) (t : State) : Prop where
  ready : t.store.ready = true
  activeBank : t.store.activeBank = selectBank x.bank0 x.bank1
  points : t.table.points = t.activeImage.points.map builtPoint
  inhibitSet : t.table.inhibitSet = idsWhere (fun id => (t.point id).inhibits)
  params : t.clock.active = t.activeImage.frame
  profile : t.seq.profile = t.activeImage.profile

theorem BuiltFrom.keeps {x : Store} {s t : State} (h : BuiltFrom x s) (k : SameSelection s t) (ht : t.table = s.table)
    (hc : t.clock.active = s.clock.active) : BuiltFrom x t := by
  have hp : ∀ id, t.point id = s.point id := point_of_table s t (by rw [ht])
  constructor
  · rw [k.ready, h.ready]
  · rw [k.activeBank, h.activeBank]
  · rw [k.activeImage, ht, h.points]
  · simp only [hp]
    rw [ht, h.inhibitSet]
  · rw [k.activeImage, hc, h.params]
  · rw [k.activeImage, k.profile, h.profile]

theorem raiseIf_rest (b : Bool) (c : CauseName) (s : State) :
    s.raiseIf b c = { s with attention := (s.raiseIf b c).attention } := by
  unfold State.raiseIf
  split <;> rfl

/-- R24, R48, R101: the blocks are built from the image of the bank that the Store holds active. -/
theorem build_blocks (s : State) :
    s.build.store = s.store ∧ s.build.table.points = s.activeImage.points.map builtPoint ∧
      s.build.clock.active = s.activeImage.frame ∧ s.build.seq.profile = s.activeImage.profile ∧
      s.build.power = s.power ∧ s.build.sense = s.sense := ⟨rfl, rfl, rfl, rfl, rfl, rfl⟩

/-- R24: the inhibit set is derived from the records built. -/
theorem build_inhibitSet (s : State) :
    s.build.table.inhibitSet = idsWhere (fun id => (s.build.point id).inhibits) := rfl

theorem build_built {x : Store} (s : State) (hr : s.store.ready = true)
    (hb : s.store.activeBank = selectBank x.bank0 x.bank1) : BuiltFrom x s.build := by
  obtain ⟨store, points, params, profile, _, _⟩ := build_blocks s
  have inhibitSet := build_inhibitSet s
  generalize s.build = t at store points params profile inhibitSet
  have himage : t.activeImage = s.activeImage := by
    unfold State.activeImage State.bank
    rw [store]
  constructor
  · rw [store, hr]
  · rw [store, hb]
  · rw [himage, points]
  · exact inhibitSet
  · rw [himage, params]
  · rw [himage, profile]

/-- R157 to R160: what the end of the load leaves beside the blocks it builds. -/
theorem endLoad_rest (s : State) :
    let t := ({ s with store := s.store.loaded } : State).build
    s.endLoad = { t with freeIndex := t.freeIndex + 1, attention := s.endLoad.attention } := by
  unfold State.endLoad
  simp only
  rw [raiseIf_rest, raiseIf_rest]
  rfl

/-- R24, R157 to R160: the load builds the blocks from what it selects, whatever it finds. -/
theorem endLoad_built (s : State) :
    BuiltFrom s.store s.endLoad ∧ s.endLoad.power = s.power ∧ s.endLoad.sense = s.sense := by
  have hrest := endLoad_rest s
  have built : BuiltFrom s.store ({ s with store := s.store.loaded } : State).build := build_built _ rfl rfl
  obtain ⟨_, _, _, _, power, sense⟩ := build_blocks { s with store := s.store.loaded }
  generalize ({ s with store := s.store.loaded } : State).build = t at hrest built power sense
  refine ⟨?_, by rw [hrest]; exact power, by rw [hrest]; exact sense⟩
  rw [hrest]
  exact built.keeps ⟨rfl, rfl, rfl, rfl, rfl⟩ rfl rfl

/-! ### The end of LOADING (R96, R128, R129) -/

/-- R80, R129: the entry to DISCOVERING starts its discovery and leaves the blocks built. -/
theorem enterDiscovering_starts (s : State) :
    SameSelection s s.enterDiscovering ∧ s.enterDiscovering.table = s.table ∧
      s.enterDiscovering.clock.active = s.clock.active ∧ s.enterDiscovering.power.state = .discovering ∧
      s.enterDiscovering.chain.enumeration = some
        { purpose := .discovery .start s.clock.active.monitorCount, listening := false, counting := true,
          found := 0 } := ⟨⟨rfl, rfl, rfl, rfl, rfl⟩, rfl, rfl, rfl, rfl⟩

/-- R128: with the Store ready and the five levels known LOADING ends in DISCOVERING. -/
theorem checkLoadingEnd_ends {s : State} (hp : s.power.state = .loading) (hr : s.store.ready = true)
    (hk : s.sense.allKnown = true) : s.checkLoadingEnd = s.enterDiscovering.lineEvents s.sense.awayLines :=
  if_pos ⟨hp, hr, hk⟩

theorem checkLoadingEnd_stays {s : State} (hk : s.sense.allKnown = false) : s.checkLoadingEnd = s := by
  refine if_neg ?_
  rintro ⟨_, _, hknown⟩
  rw [hk] at hknown
  cases hknown

/-- R96, R128: the blocks stand through the end of LOADING, whether or not it comes. -/
theorem checkLoadingEnd_built {x : Store} {s : State} (h : BuiltFrom x s) (hp : s.power.state = .loading) :
    BuiltFrom x s.checkLoadingEnd ∧ (s.sense.allKnown = false → s.checkLoadingEnd.power.state = .loading) ∧
      (s.sense.allKnown = true → s.checkLoadingEnd.power.state = .discovering ∧
        s.checkLoadingEnd.chain.enumeration = some
          { purpose := .discovery .start s.checkLoadingEnd.clock.active.monitorCount, listening := false,
            counting := true, found := 0 }) := by
  cases hk : s.sense.allKnown with
  | false =>
    rw [checkLoadingEnd_stays hk]
    exact ⟨h, fun _ => hp, nofun⟩
  | true =>
    rw [checkLoadingEnd_ends hp h.ready hk]
    obtain ⟨selection, table, active, power, enumeration⟩ := enterDiscovering_starts s
    have k := lineEvents_keepsLoad s.sense.awayLines power
    generalize s.enterDiscovering.lineEvents s.sense.awayLines = t at k
    generalize s.enterDiscovering = u at selection table active power enumeration k
    have hactive : t.clock.active = s.clock.active := by rw [k.clock, active]
    refine ⟨h.keeps (selection.trans k.selection) (k.table.trans table) hactive, nofun,
      fun _ => ⟨?_, ?_⟩⟩
    · rw [k.power, power]
    · rw [k.chain, hactive, enumeration]

/-- Settles O19: the load builds the blocks, and the end of LOADING, which may follow it with line events,
keeps them. -/
theorem loadEndBuildsTheBlocks : Obligations.LoadEndBuildsTheBlocks := by
  intro s hv hp hr
  obtain ⟨t, hexec, same⟩ := event_takes State.loadEnded s hv
  refine ⟨t, hexec, ?_⟩
  obtain ⟨built, power, sense⟩ := endLoad_built s
  obtain ⟨kept, stays, ends⟩ := checkLoadingEnd_built built (by rw [power, hp])
  rw [sense] at stays ends
  have hx : s.loadEnded = s.endLoad.checkLoadingEnd := if_pos ⟨hp, hr⟩
  rw [hx] at same
  have b : BuiltFrom s.store t := kept.keeps
    ⟨congrArg (·.ready) same.store, congrArg (·.activeBank) same.store, congrArg (·.bank0) same.store,
      congrArg (·.bank1) same.store, congrArg (·.profile) same.seq⟩ same.table (congrArg (·.active) same.clock)
  rw [← same.power] at stays
  rw [← same.power, ← same.chain, ← same.clock] at ends
  exact ⟨b.ready, b.activeBank, b.points, b.inhibitSet, b.params, b.profile, stays, ends⟩

end Sys2Proof.Proofs

/-! The requests of the Frame Clock and the ring (chapters 3 and 4) and the queries of the blocks: SETFRM, SPOT, MSTAT and
DISCOV by their owners' answers, and what joining the tail queue leads to. -/

namespace Sys2Proof.Proofs

open Sys2Proof.Machine Sys2Proof.Laws

/-! ### SETFRM (R49) -/

section Setfrm

variable {b : List Byte} {s : State}

theorem takeSetfrm_badArgument (h : (PendingParams.decode b).rangesOk = false) :
    takeSetfrm b s = refuse .badArgument s := by
  simp [takeSetfrm, h]

theorem takeSetfrm_staged (h : (PendingParams.decode b).rangesOk = true) (hf : s.stagedFrame? ≠ none) :
    takeSetfrm b s = refuse .staged s := by
  simp [takeSetfrm, h, Option.isSome_iff_ne_none, hf]

theorem takeSetfrm_slotRange (h : (PendingParams.decode b).rangesOk = true) (hf : s.stagedFrame? = none)
    (hs : s.slotsBelow (PendingParams.decode b).slotCount = false) : takeSetfrm b s = refuse .slotRange s := by
  simp [takeSetfrm, h, hf, hs]

theorem takeSetfrm_accepted (h : (PendingParams.decode b).rangesOk = true) (hf : s.stagedFrame? = none)
    (hs : s.slotsBelow (PendingParams.decode b).slotCount = true) :
    takeSetfrm b s =
      ({ s with clock := { s.clock with waiting := some (PendingParams.decode b) } }, .now .accepted []) := by
  simp [takeSetfrm, h, hf, hs]

end Setfrm

/-- SETFRM is taken by its owner when its body has its four bytes (R187). -/
theorem exec_setfrm (b : List Byte) (s : State) (h : b.length = 4) :
    exec (.setfrm b) s = request codeSetfrm b true (takeSetfrm b) s := by
  show request codeSetfrm b (b.length == 4) _ s = _
  rw [h]
  rfl

/-- Settles O29: each clause is one of the owner's answers, whose tests do not see the port. -/
theorem setfrmReplacesThePendingRecord : Obligations.SetfrmReplacesThePendingRecord := by
  intro b s hh hlen p refused
  have refuses (a : AnswerCode) (h : takeSetfrm b (received b.length s) = refuse a (received b.length s)) :
      refused a := by
    show exec (.setfrm b) s = .next (s.answered codeSetfrm 4 a [])
    rw [exec_setfrm b s hlen, request_refuses _ _ _ _ _ hh h, hlen]
  refine ⟨fun h => ?_, fun h hf => ?_, fun h hf hs => ?_, fun h hf hs => ?_⟩
  · exact refuses _ (takeSetfrm_badArgument h)
  · exact refuses _ (takeSetfrm_staged h hf)
  · exact refuses _ (takeSetfrm_slotRange h hf hs)
  · have owner := takeSetfrm_accepted (s := received b.length s) h hf hs
    rw [exec_setfrm b s hlen,
      request_answers _ _ _ _ { s with clock := { s.clock with waiting := some p } } _ _ hh owner, hlen]

/-! ### The queries (R50, R87, R126, R146, R183) -/

/-- Settles O30: the owner of a query clears its causes and answers a body that does not show the port. -/
theorem queriesClearTheirCauses : Obligations.QueriesClearTheirCauses := by
  intro s
  refine ⟨fun h => ?_, fun h => ?_, fun h => ?_, fun h => ?_, fun h => ?_⟩
  · exact request_answers codeQfrm [] takeQfrm s (s.clear .frame) .done (qfrmBody s) h rfl
  · exact request_answers codeQchain [] takeQchain s (s.clear .chain) .done (qchainBody s) h rfl
  · exact request_answers codeQcont [] takeQcont s (s.clear .contactor) .done (qcontBody s) h rfl
  · exact request_answers codeQpower [] takeQpower s (s.clear .power) .done (qpowerBody s) h rfl
  · exact request_answers codeQstore [] takeQstore s (((s.clear .update).clear .store).clear .tamper) .done
      (qstoreBody s) h rfl

/-! ### The tail queue (R63, R65) -/

/-- R65: while the tail may not serve, its items wait. -/
theorem serveTail_busy (n : Nat) {s : State} (h : s.tailFree = false) : s.serveTail n = s := by
  cases n with
  | zero => rfl
  | succ n =>
    unfold State.serveTail
    split
    · rfl
    · rw [if_neg (by rw [h]; decide)]

/-- R65: the service of an item that the tail may serve and that is then in flight. -/
theorem serveTail_inFlight (n : Nat) {s t : State} {x : TailItem} {rest : List TailItem}
    (hq : s.clock.tail = x :: rest) (hf : s.tailFree = true) (hs : s.serve x = .inFlight t) :
    s.serveTail (n + 1) = t.setTailInFlight true := by
  unfold State.serveTail
  simp only [hq, hf, hs, if_true]

/-- Whether the tail may serve does not depend on the queue. -/
theorem tailFree_of_tail (s : State) (xs : List TailItem) :
    State.tailFree { s with clock := { s.clock with tail := xs } } = s.tailFree := rfl

/-- R63: an item that joins the queue of a tail that may not serve waits at its end. -/
theorem joinTail_busy {s : State} (x : TailItem) (h : s.tailFree = false) :
    s.joinTail x = { s with clock := { s.clock with tail := s.clock.tail ++ [x] } } :=
  serveTail_busy _ ((tailFree_of_tail s _).trans h)

/-- R65: an item that joins the empty queue of a free tail is served at once. -/
theorem joinTail_served {s t : State} {x : TailItem} (hq : s.clock.tail = []) (hf : s.tailFree = true)
    (hs : State.serve x { s with clock := { s.clock with tail := [x] } } = .inFlight t) :
    s.joinTail x = t.setTailInFlight true := by
  unfold State.joinTail State.runTail
  rw [hq]
  exact serveTail_inFlight 0 rfl hf hs

/-- R65, R92: a SPOT item of an internal point begins the capture of its converter. -/
theorem serve_spot_internal {s : State} {id : Nat} {d : Definition} {l : Live} {p : Option PendingPart} {c : Converter}
    (hp : s.point id = .live d l p) (hc : d.kind.converter? = some c) (hn : s.capture? c = none) :
    s.serve (.spot id) = .inFlight (s.setCapture c (some { ids := [], spot := some id })) := by
  simp [State.serve, hp, Point.liveDefinition?, State.serveSpot, hc, State.captureSpot, hn]

/-- R83: an MSTAT item of a monitor that can be read begins its read. -/
theorem serve_mstat_readable {s : State} {a : Nat} (clear : Bool) (h : s.readable a = true) :
    s.serve (.mstat a clear) =
      .inFlight (s.sendRead { address := a, block := .status, clear := clear, second := false, owner := .mstat }) :=
  if_pos h

/-! ### SPOT (R64), MSTAT (R83) and DISCOV (R62) -/

section Spot

variable {id : Nat} {s : State}

theorem takeSpot_settling (h : s.power.state = .settling) : takeSpot id s = refuse .state s := if_pos h

theorem takeSpot_noPoint (hs : s.power.state ≠ .settling) (h : (s.point id).isLive = false) :
    takeSpot id s = refuse .noPoint s := by
  simp [takeSpot, hs, h]

theorem takeSpot_merges (hs : s.power.state ≠ .settling) (hl : (s.point id).isLive = true)
    (h : TailItem.spot id ∈ s.clock.tail) : takeSpot id s = (s, .now .accepted []) := by
  simp [takeSpot, hs, hl, h]

theorem takeSpot_queueFull (hs : s.power.state ≠ .settling) (hl : (s.point id).isLive = true)
    (hm : TailItem.spot id ∉ s.clock.tail) (h : 4 ≤ s.clock.tail.length) : takeSpot id s = refuse .queueFull s := by
  simp [takeSpot, hs, hl, hm, h]

theorem takeSpot_joins (hs : s.power.state ≠ .settling) (hl : (s.point id).isLive = true)
    (hm : TailItem.spot id ∉ s.clock.tail) (h : s.clock.tail.length < 4) :
    takeSpot id s = (s.joinTail (.spot id), .now .accepted []) := by
  simp [takeSpot, hs, hl, hm, Nat.not_le.2 h]

end Spot

/-- R64: each answer of SPOT, with `u` the state its owner leaves but for the port. -/
theorem exec_spot_answers {id : Nat} {s u : State} {a : AnswerCode} (hh : s.hands codeSpot) (hid : id ≤ 383)
    (h : takeSpot id (received 2 s) = ({ u with port := (received 2 s).port }, .now a [])) :
    exec (.spot (le16 id)) s = .next (u.answered codeSpot 2 a []) :=
  request_answers codeSpot (le16 id) _ s u a [] hh ((withId_le16 id takeSpot (received 2 s) hid).trans h)

theorem boolOf_boolByte (b : Bool) : boolOf (boolByte b).toNat = some b := by cases b <;> rfl

/-- R83: an MSTAT that no refusal meets joins the queue. -/
theorem takeMstat_joins {a : Nat} (clear : Bool) {s : State} (hs : s.power.state ≠ .settling) (ha : a ≤ 15)
    (hr : s.readable a = true) (h : s.clock.tail.length < 4) :
    takeMstat [BitVec.ofNat 8 a, boolByte clear] s = (s.joinTail (.mstat a clear), .now .accepted []) := by
  have h0 : u8 [BitVec.ofNat 8 a, boolByte clear] 0 = a := by
    simp only [u8, List.getD_cons_zero, BitVec.toNat_ofNat]
    omega
  have h1 : boolOf (u8 [BitVec.ofNat 8 a, boolByte clear] 1) = some clear := boolOf_boolByte clear
  simp [takeMstat, h0, h1, hs, hr, Nat.not_lt.2 ha, Nat.not_le.2 h]

/-- R83: an MSTAT that joins the queue, with `u` the state the joining leaves but for the port. -/
theorem exec_mstat_accepted {a : Nat} {clear : Bool} {s u : State} (hh : s.hands codeMstat)
    (hs : s.power.state ≠ .settling) (ha : a ≤ 15) (hr : s.readable a = true) (hl : s.clock.tail.length < 4)
    (h : (received 2 s).joinTail (.mstat a clear) = { u with port := (received 2 s).port }) :
    exec (.mstat [BitVec.ofNat 8 a, boolByte clear]) s = .next (u.answered codeMstat 2 .accepted []) :=
  request_answers codeMstat [BitVec.ofNat 8 a, boolByte clear] _ s u .accepted [] hh
    ((takeMstat_joins (s := received 2 s) clear hs ha hr hl).trans (congrArg (·, _) h))

theorem takeDiscov_accepted {s : State} (hs : s.power.state ≠ .settling) :
    takeDiscov s = ({ s with clock := { s.clock with discoveryPending := true } }, .now .accepted []) := if_neg hs

/-- R65, R92: SPOT of an internal point, with the tail free and its queue empty, begins the capture at once. -/
theorem joinTail_spot_internal {s : State} {id : Nat} {d : Definition} {l : Live} {p : Option PendingPart}
    {c : Converter} (hp : s.point id = .live d l p) (hc : d.kind.converter? = some c) (hq : s.clock.tail = [])
    (hf : s.tailFree = true) (hn : s.capture? c = none) :
    s.joinTail (.spot id) =
      State.setCapture c (some { ids := [], spot := some id })
        { s with clock := { s.clock with tail := [.spot id], tailInFlight := true } } := by
  have hcapture : State.capture? { s with clock := { s.clock with tail := [.spot id] } } c = none := by
    cases c <;> exact hn
  rw [joinTail_served hq hf (serve_spot_internal hp hc hcapture)]
  cases c <;> rfl

/-- R65, R83: MSTAT of a monitor that can be read, with the tail free and its queue empty, begins the read at once. -/
theorem joinTail_mstat_readable {s : State} {a : Nat} (clear : Bool) (hr : s.readable a = true)
    (hq : s.clock.tail = []) (hf : s.tailFree = true) :
    s.joinTail (.mstat a clear) =
      State.sendRead { address := a, block := .status, clear := clear, second := false, owner := .mstat }
        { s with clock := { s.clock with tail := [.mstat a clear], tailInFlight := true } } :=
  joinTail_served hq hf (serve_mstat_readable clear hr)

/-- A capture is set whatever the port. -/
theorem setCapture_of_port (c : Converter) (x : Option Capture) (s : State) (p : Port) :
    State.setCapture c x { s with port := p } = { s.setCapture c x with port := p } := by cases c <;> rfl

/-- Settles O31: each clause is one of the owners' answers; an item that joins the queue waits while the tail is not
free, and is served at once by a free tail with nothing before it. -/
theorem tailRequestsJoinTheQueue : Obligations.TailRequestsJoinTheQueue := by
  intro s
  refine ⟨fun id hh hid => ?_, fun a clear hh hs ha hr => ?_, fun hh hs => ?_⟩
  · intro spot listens
    have answers (u : State) (a : AnswerCode)
        (h : takeSpot id (received 2 s) = ({ u with port := (received 2 s).port }, .now a [])) : spot a u :=
      exec_spot_answers hh hid h
    refine ⟨fun h => ?_, fun hs h => ?_, fun ⟨hs, hl⟩ hm => ?_, fun ⟨hs, hl⟩ hm h => ?_,
      fun ⟨hs, hl⟩ hm h hf => ?_, fun d l p c hs hp hc hq hf hn => ?_⟩
    · exact answers _ _ (takeSpot_settling h)
    · exact answers _ _ (takeSpot_noPoint hs h)
    · exact answers _ _ (takeSpot_merges (s := received 2 s) hs hl hm)
    · exact answers _ _ (takeSpot_queueFull (s := received 2 s) hs hl hm h)
    · refine answers _ _ ((takeSpot_joins (s := received 2 s) hs hl hm h).trans ?_)
      rw [joinTail_busy _ (by rw [received_tailFree]; exact hf)]
      rfl
    · have hl : (s.point id).isLive = true := by rw [hp]; rfl
      have hm : TailItem.spot id ∉ s.clock.tail := by rw [hq]; exact List.not_mem_nil
      have hlen : s.clock.tail.length < 4 := by rw [hq]; decide
      refine answers _ _ ((takeSpot_joins (s := received 2 s) hs hl hm hlen).trans ?_)
      rw [joinTail_spot_internal (s := received 2 s) hp hc hq hf (by rw [received_capture]; exact hn),
        ← setCapture_of_port]
      rfl
  · refine ⟨fun hl hf => ?_, fun hq hf => ?_⟩
    · refine exec_mstat_accepted hh hs ha hr hl ?_
      rw [joinTail_busy _ (by rw [received_tailFree]; exact hf)]
      rfl
    · refine exec_mstat_accepted hh hs ha hr (by rw [hq]; decide) ?_
      rw [joinTail_mstat_readable (s := received 2 s) clear hr hq hf]
      rfl
  · exact request_answers codeDiscov [] takeDiscov s { s with clock := { s.clock with discoveryPending := true } }
      .accepted [] hh (takeDiscov_accepted (s := received 0 s) hs)

end Sys2Proof.Proofs

/-! The start of a later slot (R57 to R59): its round on the ring, or the overrun of the round before. -/

namespace Sys2Proof.Proofs

open Sys2Proof.Machine Sys2Proof.Laws

/-! ### The points of a slot and their entries (R57, R58) -/

/-- R58: the entry that a point needs is read off its definition. -/
theorem readEntry_of_definitions {s t : State} (h : ∀ id, (t.point id).liveDefinition? = (s.point id).liveDefinition?)
    (id : Nat) : t.readEntry? id = s.readEntry? id := by
  unfold State.readEntry?
  rw [h]

/-- R58: the read queue is built from the definitions and the monitors that can be read. -/
theorem readQueue_of_definitions {s t : State}
    (h : ∀ id, (t.point id).liveDefinition? = (s.point id).liveDefinition?) (ids : List Nat) (reach : Nat → Bool) :
    t.readQueue ids reach = s.readQueue ids reach := by
  unfold State.readQueue
  simp only [readEntry_of_definitions h]

/-- R57: the points of a slot are read off the definitions and the frame number. -/
theorem slotPoints_of_definitions {s t : State}
    (h : ∀ id, (t.point id).liveDefinition? = (s.point id).liveDefinition?) (hn : t.clock.number = s.clock.number)
    (k : Nat) : t.slotPoints k = s.slotPoints k := by
  unfold State.slotPoints State.liveIds
  simp only [h, hn]

/-- R58: the points that need no entry add nothing to the read queue. -/
theorem readQueue_filter_chain (s : State) (ids : List Nat) (reach : Nat → Bool) :
    s.readQueue (ids.filter (fun id => (s.readEntry? id).isSome)) reach = s.readQueue ids reach := by
  unfold State.readQueue
  refine congrArg (List.filter · allEntries) (funext fun e => congrArg (reach e.1 && ·) ?_)
  rw [List.any_filter]
  refine congrArg ids.any (funext fun id => ?_)
  cases s.readEntry? id <;> rfl

theorem readQueue_nil (s : State) (reach : Nat → Bool) : s.readQueue [] reach = [] := by
  simp [State.readQueue]

/-! ### The beginning of a round (R57, R70, R71) -/

/-- R57, R70, R71: a round begins on the ring: CONVERT is broadcast and the head entry is read. -/
def beganRound (r : Round) (e : Nat × Block) (s : State) : State :=
  ({ s with chain := { s.chain with round := some r } }).convert.sendRead (roundRead e)

theorem beganRound_chain (r : Round) (e : Nat × Block) (s : State) :
    (beganRound r e s).chain =
      { s.chain with
        round := some r, read := some (roundRead e), tag := s.chain.tag + 1
        sent := s.chain.sent ++ [convertMessage (s.chain.tag + 1), readMessage e.1 e.2 false] } := by
  show { s.chain with
    round := some r, read := some (roundRead e), tag := s.chain.tag + 1
    sent := (s.chain.sent ++ [convertMessage (s.chain.tag + 1)]) ++ [readMessage e.1 e.2 false] } = _
  rw [List.append_assoc]
  rfl

/-- The beginning of a round moves the ring alone. -/
theorem beganRound_rest (r : Round) (e : Nat × Block) (s : State) :
    (beganRound r e s).table = s.table ∧ (beganRound r e s).clock = s.clock := ⟨rfl, rfl⟩

/-- R57: with every monitor of its points readable a round that has entries begins, and no point misses. -/
theorem beginRound_begins {s : State} {inSleep : Bool} {ids : List Nat} {reach : Nat → Bool} {e : Nat × Block}
    {rest : List (Nat × Block)} (hreach : ∀ id ∈ ids, ∀ x, s.readEntry? id = some x → reach x.1 = true)
    (hq : s.readQueue ids reach = e :: rest) :
    ∃ r : Round, r.queue = e :: rest ∧ s.beginRound inSleep ids reach = beganRound r e s := by
  have hmiss : ids.filter (fun id => (s.readEntry? id).any (fun x => !reach x.1)) = [] := by
    rw [List.filter_eq_nil_iff]
    intro id hid h
    obtain ⟨x, hx, hr⟩ := (Option.any_eq_true _ _).1 h
    simp [hreach id hid x hx] at hr
  unfold State.beginRound
  rw [hmiss, hq]
  exact ⟨_, rfl, rfl⟩

/-- A round without points does not begin. -/
theorem beginRound_nil (s : State) (inSleep : Bool) (reach : Nat → Bool) : s.beginRound inSleep [] reach = s := by
  unfold State.beginRound
  rw [readQueue_nil]
  rfl

/-- R53, R57: the instant of a later slot. -/
theorem slotInstantReached_slot {s : State} {k : Nat} {b : Bool} (hp : s.clock.phase = .slot k b)
    (hk : k + 1 < s.clock.active.slotCount) : s.slotInstantReached = s.overrun.startSlot (k + 1) := by
  unfold State.slotInstantReached
  rw [hp]
  exact if_pos hk

/-- R57: a slot whose chain points can all be read begins its round on the ring, whatever its converters capture. -/
theorem startSlot_reads {s : State} {k : Nat} {e : Nat × Block} {rest : List (Nat × Block)}
    (hg : s.clock.given = false)
    (hreach : ∀ id ∈ s.slotPoints k, ∀ x, s.readEntry? id = some x → s.readable x.1 = true)
    (hq : s.readQueue (s.slotPoints k) s.readable = e :: rest) :
    ∃ (r : Round) (t : State), r.queue = e :: rest ∧ s.startSlot k = beganRound r e t ∧ t.table = s.table ∧
      t.clock = { s.clock with phase := .slot k true } ∧ t.chain = s.chain := by
  obtain ⟨table, clock, chain, _⟩ := captureRound_rest (s.slotPoints k) (s.setPhase (.slot k true))
  unfold State.startSlot
  simp only
  generalize (s.setPhase (.slot k true)).captureRound (s.slotPoints k) = t at table clock chain
  rw [setPhase_table] at table
  rw [setPhase_clock] at clock
  rw [setPhase_chain] at chain
  have hpoint : ∀ id, t.point id = s.point id := point_of_table s t (by rw [table])
  have hdef : ∀ id, (t.point id).liveDefinition? = (s.point id).liveDefinition? := fun id => by rw [hpoint]
  have hreadable : t.readable = s.readable := by
    funext a
    unfold State.readable State.entry
    rw [chain]
  obtain ⟨r, hr, hbegin⟩ := beginRound_begins (s := t) (inSleep := false) (reach := t.readable)
    (ids := (s.slotPoints k).filter (fun id => (s.readEntry? id).isSome))
    (fun id hid x hx => by
      rw [hreadable]
      exact hreach id (List.mem_filter.1 hid).1 x ((readEntry_of_definitions hdef id).symm.trans hx))
    (by rw [hreadable, readQueue_of_definitions hdef, readQueue_filter_chain, hq])
  refine ⟨r, t, hr, ?_, table, clock, chain⟩
  have hgiven : ¬t.clock.given = true := by rw [clock]; simpa using hg
  rw [if_neg hgiven, hbegin]
  exact if_pos rfl

/-- R57: a slot without points, and not the last, ends its round at once. -/
theorem startSlot_empty {s : State} {k : Nat} (hp : s.slotPoints k = []) (hr : s.chain.round = none)
    (hk : k + 1 < s.clock.active.slotCount) : s.startSlot k = s.setPhase (.slot k false) := by
  have hcapture : (s.setPhase (.slot k true)).captureRound [] = s.setPhase (.slot k true) := rfl
  have hmiss : (s.setPhase (.slot k true)).missAll [] = s.setPhase (.slot k true) := rfl
  have hround : ¬(s.setPhase (.slot k true)).chain.round.isSome = true := by rw [setPhase_chain, hr]; decide
  unfold State.startSlot
  simp only [hp, List.filter_nil, hcapture, hmiss, beginRound_nil, ite_self]
  rw [if_neg hround]
  exact if_neg (Nat.not_le.2 hk)

/-! ### The overrun (R59, R76, R77) -/

theorem overrun_none {s : State} (h : s.chain.round = none) : s.overrun = s := by
  unfold State.overrun
  rw [h]

/-- R59: the frame clock's count of overruns saturates. -/
theorem satIncr_word16 (x : BitVec 16) : satIncr x = if x = 65535 then 65535 else x + 1 := by
  unfold satIncr
  have hmax : BitVec.allOnes 16 = 65535 := rfl
  rw [hmax]
  split
  · assumption
  · rfl

/-- `t` differs from `s` in the counts of the roster and the cause CHAIN alone. -/
structure OnlyCounts (s t : State) : Prop where
  table : t.table = s.table
  clock : t.clock = s.clock
  round : t.chain.round = s.chain.round
  read : t.chain.read = s.chain.read
  frame : t.attention.set.frame = s.attention.set.frame

theorem OnlyCounts.refl (s : State) : OnlyCounts s s := ⟨rfl, rfl, rfl, rfl, rfl⟩

theorem OnlyCounts.trans {s t u : State} (h : OnlyCounts s t) (k : OnlyCounts t u) : OnlyCounts s u :=
  ⟨k.table.trans h.table, k.clock.trans h.clock, k.round.trans h.round, k.read.trans h.read, k.frame.trans h.frame⟩

/-- R77: the count of one monitor. -/
theorem countMonitor_counts (s : State) (r : Round) (a : Nat) : OnlyCounts s (s.countMonitor r a) := by
  unfold State.countMonitor
  simp only
  split
  · split <;> exact ⟨rfl, rfl, rfl, rfl, rfl⟩
  · split <;> exact ⟨rfl, rfl, rfl, rfl, rfl⟩

/-- R77: the count of a round. -/
theorem countRound_counts (s : State) (r : Round) : OnlyCounts s (s.countRound r) := by
  unfold State.countRound
  induction r.monitors generalizing s with
  | nil => exact .refl s
  | cons a rest ih => exact (countMonitor_counts s r a).trans (ih _)

/-- R59, R76, R77: everything an overrun does to the frame clock, the ring, the cause FRAME and the points. -/
structure Overran (r : Round) (s t : State) : Prop where
  clock : t.clock = { s.clock with overruns := satIncr s.clock.overruns }
  round : t.chain.round = none
  read : t.chain.read = none
  frame : t.attention.set.frame = true
  point : ∀ x, t.point x = if x ∈ s.dependents r.queue r.points then missed (s.point x) else s.point x
  definitions : ∀ x, (t.point x).liveDefinition? = (s.point x).liveDefinition?

/-- R59, R76: the round and its read are given up, its points miss, and the overrun is noted with FRAME. -/
def givenUp (r : Round) (s : State) : State :=
  let t := ({ s with chain := { s.chain with round := none, read := none } }).missAll (s.dependents r.queue r.points)
  ({ t with clock := { t.clock with overruns := satIncr t.clock.overruns } }).raise .frame

theorem overrun_eq {s : State} {r : Round} (h : s.chain.round = some r) :
    s.overrun = (givenUp r s).countRound r := by
  unfold State.overrun
  rw [h]
  rfl

theorem givenUp_overran {s : State} {r : Round} (hn : r.points.Nodup) : Overran r s (givenUp r s) := by
  have j := missAll_judges { s with chain := { s.chain with round := none, read := none } }
    (s.dependents r.queue r.points)
  have hpoint := point_missAll { s with chain := { s.chain with round := none, read := none } } _
    (hn.filter (fun id => (s.readEntry? id).any r.queue.contains))
  constructor
  case clock => unfold givenUp; simp only [raise_clock, j.clock]
  case round => exact congrArg (·.round) j.chain
  case read => exact congrArg (·.read) j.chain
  case frame => rfl
  case point => exact hpoint
  case definitions => exact j.definitions

/-- R59: with its monitors counted too, the overrun is as `Overran` says. -/
theorem overrun_overran {s : State} {r : Round} (h : s.chain.round = some r) (hn : r.points.Nodup) :
    Overran r s s.overrun := by
  have o := givenUp_overran (s := s) hn
  have k := countRound_counts (givenUp r s) r
  have hpoint : ∀ x, ((givenUp r s).countRound r).point x = (givenUp r s).point x :=
    point_of_table _ _ (congrArg (·.points) k.table)
  rw [overrun_eq h]
  exact ⟨k.clock.trans o.clock, k.round.trans o.round, k.read.trans o.read, k.frame.trans o.frame,
    fun x => (hpoint x).trans (o.point x), fun x => (congrArg _ (hpoint x)).trans (o.definitions x)⟩

/-- Settles O34: a slot start with no round left begins its own on the ring; one with a round left overruns it, and its
own slot, which has no points, ends at once. -/
theorem slotStartReadsOrOverruns : Obligations.SlotStartReadsOrOverruns := by
  intro k s hv
  obtain ⟨t, hexec, same⟩ := event_takes State.slotInstantReached s hv
  refine ⟨fun e rest hp hk hr hg hreach hq => ?_, fun r hp hr hempty hk hn => ?_⟩
  · obtain ⟨r, u, hqueue, hstart, table, clock, chain⟩ := startSlot_reads hg hreach hq
    rw [slotInstantReached_slot hp hk, overrun_none hr, hstart] at same
    obtain ⟨rtable, rclock⟩ := beganRound_rest r e u
    have hchain := same.chain.trans (beganRound_chain r e u)
    have hclock := same.clock.trans (rclock.trans clock)
    rw [chain] at hchain
    refine ⟨t, r, hexec, ?_, ?_, ?_, hqueue, ?_, ?_, same.table.trans (rtable.trans table)⟩
    · rw [hclock]
    · rw [hchain]
    · rw [hchain]
    · rw [hchain]; rfl
    · rw [hchain]
  · have o := overrun_overran hr hn
    have hslot : s.overrun.slotPoints (k + 1) = [] :=
      (slotPoints_of_definitions o.definitions (by rw [o.clock]) (k + 1)).trans hempty
    have hcount : k + 1 + 1 < s.overrun.clock.active.slotCount := by rw [o.clock]; exact hk
    rw [slotInstantReached_slot hp (by omega), startSlot_empty hslot o.round hcount] at same
    have hclock := same.clock.trans (setPhase_clock _ _)
    have hpoint : ∀ x, t.point x = s.overrun.point x := same.point
    rw [o.clock] at hclock
    refine ⟨t, hexec, ?_, ?_, ?_, ?_, ?_, fun id d l p hid hlive => ?_, fun id hid => ?_⟩
    · rw [hclock]
    · rw [hclock]; exact satIncr_word16 s.clock.overruns
    · rw [same.attention]; exact o.frame
    · rw [same.chain]; exact o.round
    · rw [same.chain]; exact o.read
    · rw [hpoint, o.point, if_pos hid, hlive, missed]
    · rw [hpoint, o.point, if_neg hid]

end Sys2Proof.Proofs

/-! An accepted reply in a round (R58, R71, R73): what it gives its points, and the READ of the next entry. -/

namespace Sys2Proof.Proofs

open Sys2Proof.Machine Sys2Proof.Laws

/-! ### What a block gives a point (R73) -/

/-- R73: what an accepted block makes of the record of a point that depends on it. -/
def channelGiven (n : Word32) (b : Block) (words : List Nat) : Point → Point
  | .live d l p =>
    .live d
      (match d.channelIn b words with
        | some v => l.judged d v n
        | none => l.afterMiss d) p
  | .vacant => .vacant
  | .enlisting d => .enlisting d

theorem point_deliverChannel (s : State) (b : Block) (words : List Nat) (id x : Nat) :
    (s.deliverChannel b words id).point x =
      if x = id then channelGiven s.clock.number b words (s.point id) else s.point x := by
  have value : channelGiven s.clock.number b words (s.point id) =
      match s.channelFor id b words with
      | some v => sampled s.clock.number v (s.point id)
      | none => missed (s.point id) := by
    unfold State.channelFor
    cases s.point id with
    | vacant => rfl
    | enlisting d => rfl
    | live d l p =>
      simp only [Point.liveDefinition?, Option.bind_some, channelGiven]
      cases d.channelIn b words <;> rfl
  rw [value]
  unfold State.deliverChannel
  cases s.channelFor id b words with
  | some v => exact point_sample s id x v
  | none => exact point_miss s id x

/-- R73: an accepted block gives each of its points its channel once, and no other point anything. -/
theorem point_giveRound (s : State) (b : Block) (words : List Nat) (ids : List Nat) (hn : ids.Nodup) (x : Nat) :
    (s.giveRound b (some words) ids).point x =
      if x ∈ ids then channelGiven s.clock.number b words (s.point x) else s.point x :=
  point_foldl _ (fun t _ p => channelGiven t.clock.number b words p) (fun _ => True)
    (fun t id y _ => point_deliverChannel t b words id y) (fun _ _ _ => trivial)
    (fun t id _ _ _ => by simp only [(deliverChannel_judges t b words id).clock]) ids s trivial hn x

/-! ### The reply and the next entry (R58, R71, R72) -/

/-- R75: a reply without the fault bit leaves the roster. -/
theorem takeFaultBit_clear (a : Nat) (s : State) : s.takeFaultBit a false = s := rfl

/-- R71: an up message that passes every check, without the fault bit, ends the read that waits for it. -/
theorem upMessage_accepted {s : State} {r : Read} {m : List Byte} {words : List Nat} (hr : s.chain.read = some r)
    (hc : checkReply r s.chain.tag m = .good false words) : s.upMessage m = s.readEnded r (some words) := by
  unfold State.upMessage
  rw [hr]
  unfold State.takeReply
  simp only [hc, ReplyCheck.fault, takeFaultBit_clear]

/-- R58, R71: the round goes on as `q`, and its next entry is read. -/
def readNext (q : Round) (next : Nat × Block) (s : State) : State :=
  ({ s with chain := { s.chain with round := some q } }).sendRead (roundRead next)

/-- The READ of the next entry moves the ring alone, and leaves the roster. -/
theorem readNext_rest (q : Round) (next : Nat × Block) (s : State) :
    (readNext q next s).chain.round = some q ∧ (readNext q next s).chain.read = some (roundRead next) ∧
      (readNext q next s).chain.roster = s.chain.roster ∧ (readNext q next s).table = s.table ∧
      (readNext q next s).clock = s.clock ∧ (readNext q next s).seq = s.seq ∧
      (readNext q next s).store = s.store := ⟨rfl, rfl, rfl, rfl, rfl, rfl, rfl⟩

/-- R58, R73: the head entry of a round is accepted: its points are given their channels and the next entry is read. -/
theorem roundReadEnded_next {s : State} {q : Round} {a : Nat} {b : Block} {next : Nat × Block}
    {rest : List (Nat × Block)} (words : List Nat) (hq : s.chain.round = some q)
    (he : q.queue = (a, b) :: next :: rest) :
    s.roundReadEnded (some words) =
      readNext { q with queue := next :: rest, accepted := a :: q.accepted } next
        (s.giveRound b (some words) (s.dependents [(a, b)] q.points)) := by
  unfold State.roundReadEnded Round.advance
  simp only [hq, he, Option.isSome_some, if_true]
  rfl

/-- R58, R71, R73: what an accepted reply to the head entry of a round leads to, with another entry behind it. -/
theorem upMessage_next {s : State} {r : Read} {q : Round} {next : Nat × Block} {rest : List (Nat × Block)}
    {m : List Byte} {words : List Nat} (hr : s.chain.read = some r) (ho : r.owner = .round)
    (hq : s.chain.round = some q) (he : q.queue = (r.address, r.block) :: next :: rest)
    (hc : checkReply r s.chain.tag m = .good false words) :
    s.upMessage m =
      readNext { q with queue := next :: rest, accepted := r.address :: q.accepted } next
        (s.abandonRead.giveRound r.block (some words) (s.dependents [(r.address, r.block)] q.points)) := by
  rw [upMessage_accepted hr hc]
  unfold State.readEnded
  rw [ho]
  exact roundReadEnded_next (s := s.abandonRead) words hq he

/-- Settles O38: an accepted reply gives the points of the head entry their channels, which is judgement alone, and then
moves the round on to its next entry. -/
theorem acceptedReplyGivesTheChannels : Obligations.AcceptedReplyGivesTheChannels := by
  intro r q next rest m words s hv hr howner hq hqueue hn hc
  obtain ⟨t, hexec, same⟩ := event_takes (fun u => u.upMessage m) s hv
  refine ⟨t, hexec, ?_⟩
  have given := point_giveRound s.abandonRead r.block words (s.dependents [(r.address, r.block)] q.points)
    (hn.filter _)
  have judges := giveRound_judges s.abandonRead r.block (some words) (s.dependents [(r.address, r.block)] q.points)
  rw [upMessage_next hr howner hq hqueue hc] at same
  generalize s.abandonRead.giveRound r.block (some words) (s.dependents [(r.address, r.block)] q.points) = u
    at same judges given
  obtain ⟨round, read, roster, table, clock, seq, store⟩ :=
    readNext_rest { q with queue := next :: rest, accepted := r.address :: q.accepted } next u
  have hpoint : ∀ id, t.point id = u.point id :=
    point_of_table u t (congrArg (·.points) (same.table.trans table))
  refine ⟨fun id d l p hid hlive => ?_, fun id hid => ?_, ?_, ?_, ?_, ?_, ?_, ?_⟩
  · have hs : s.abandonRead.point id = .live d l p := hlive
    rw [hpoint, given, if_pos hid, hs]
    rfl
  · exact (hpoint id).trans ((given id).trans (if_neg hid))
  · rw [same.chain, round]
  · rw [same.chain, read]
    rfl
  · rw [same.chain, roster, judges.chain]
    rfl
  · exact same.clock.trans (clock.trans judges.clock)
  · exact same.seq.trans (seq.trans judges.seq)
  · exact same.store.trans (store.trans judges.store)

end Sys2Proof.Proofs

/-! A failed first attempt of a read (R71, R72, R74), and the enumeration of the ring with the end of a discovery in
ACTIVE (R80 to R82). -/

namespace Sys2Proof.Proofs

open Sys2Proof.Machine Sys2Proof.Laws

/-! ### A failed first attempt (R71, R72, R74) -/

/-- R72, R74: the failure of the first attempt of a read is noted, and its READ is sent again. -/
def retried (r : Read) (k : FailureKind) (s : State) : State :=
  { s with chain := { s.chain with
      roster := s.chain.roster.setIfInBounds r.address { s.entry r.address with lastFailure := some k }
      read := some { r with second := true }
      sent := s.chain.sent ++ [readMessage r.address r.block r.clear] } }

/-- R72: a first attempt is retried whatever its failure, but for TAG_STALE. -/
theorem attemptFailed_first {r : Read} {k : FailureKind} (s : State) (h : r.second = false) (hk : k ≠ .tagStale) :
    s.attemptFailed r k = retried r k s := if_pos ⟨h, hk⟩

/-- R71: the reply wait of the attempt that waits runs out. -/
theorem readWaitExpired_waiting {s : State} {r : Read} (hr : s.chain.read = some r) :
    s.readWaitExpired = s.attemptFailed r .noReply := by
  unfold State.readWaitExpired
  rw [hr]

/-- R71: an up message is for the attempt that waits. -/
theorem upMessage_waiting {s : State} {r : Read} (m : List Byte) (hr : s.chain.read = some r) :
    s.upMessage m = s.takeReply r m := by
  unfold State.upMessage
  rw [hr]

/-- R71, R75: a reply with a bad header CRC-8 gives no fault bit and fails the attempt. -/
theorem takeReply_badHeader {s : State} {r : Read} {m : List Byte} (hc : checkReply r s.chain.tag m = .badHeader) :
    s.takeReply r m = s.attemptFailed r .headerBad := by
  unfold State.takeReply
  simp only [hc, ReplyCheck.fault, takeFaultBit_clear]

/-- R71, R75: a reply to another READ gives no fault bit and fails the attempt. -/
theorem takeReply_mismatch {s : State} {r : Read} {m : List Byte} (hc : checkReply r s.chain.tag m = .mismatch) :
    s.takeReply r m = s.attemptFailed r .mismatch := by
  unfold State.takeReply
  simp only [hc, ReplyCheck.fault, takeFaultBit_clear]

/-- Settles O37: each of the three failures fails the attempt, which is the first, and so is retried. -/
theorem failedAttemptIsRetriedOnce : Obligations.FailedAttemptIsRetriedOnce := by
  intro r s hv hr hfirst
  have retries : ∀ (f : State → State) (k : FailureKind), f s = s.attemptFailed r k → k ≠ .tagStale →
      event f s = .next (retried r k s).drive := fun f k hf hk => by
    rw [event_of_supply f s hv, hf, attemptFailed_first s hfirst hk]
  refine ⟨?noReply, fun m hc => ?headerBad, fun m hc => ?mismatch⟩
  case noReply => exact retries State.readWaitExpired .noReply (readWaitExpired_waiting hr) (by decide)
  case headerBad =>
    exact retries (fun u => u.upMessage m) .headerBad ((upMessage_waiting m hr).trans (takeReply_badHeader hc))
      (by decide)
  case mismatch =>
    exact retries (fun u => u.upMessage m) .mismatch ((upMessage_waiting m hr).trans (takeReply_mismatch hc))
      (by decide)

/-! ### An enumeration (R80) -/

/-- R80: the 1 ms after WAKE_ALL has passed: ENUM is sent, and the enumeration listens. -/
theorem enumDelayExpired_waiting {s : State} {e : Enumeration} (he : s.chain.enumeration = some e)
    (hl : e.listening = false) :
    s.enumDelayExpired =
      { s with chain := { s.chain with
        enumeration := some { e with listening := true }, sent := s.chain.sent ++ [withCrc8 [0x01, 0]] } } := by
  unfold State.enumDelayExpired
  simp only [he, hl]
  rfl

/-- R80: with no attempt waiting, an up message is for the enumeration that listens. -/
theorem upMessage_listening {s : State} {e : Enumeration} (m : List Byte) (he : s.chain.enumeration = some e)
    (hl : e.listening = true) (hr : s.chain.read = none) :
    s.upMessage m = { s with chain := { s.chain with enumeration := some (e.take m) } } := by
  unfold State.upMessage
  simp only [hr, he, hl, if_true]

/-- R80: the reply expected next counts while counting goes on; whatever else comes, counting is over. -/
theorem enumeration_take (e : Enumeration) (m : List Byte) :
    e.take m =
      if e.counting = true ∧ countsAs e.found m = true then { e with found := e.found + 1 }
      else { e with counting := false } := by
  unfold Enumeration.take
  obtain ⟨purpose, listening, counting, found⟩ := e
  cases counting
  case false => rfl
  case true => simp only [if_true, true_and]

/-! ### The end of a discovery in ACTIVE (R62, R81) -/

/-- R80: the silence that ends the enumeration of a discovery. -/
theorem enumSilenceExpired_discovery {s : State} {e : Enumeration} {cause : DiscoveryCause} {c : Nat}
    (he : s.chain.enumeration = some e) (hl : e.listening = true) (hp : e.purpose = .discovery cause c) :
    s.enumSilenceExpired = s.discoveryEnded cause e.found c := by
  unfold State.enumSilenceExpired
  simp only [he, hl, hp, if_true]

/-- R65: a tail without items has nothing to serve. -/
theorem runTail_nil {s : State} (h : s.clock.tail = []) : s.runTail = s := by
  unfold State.runTail
  rw [h]
  rfl

/-- R62, R81: in ACTIVE with no tail item waiting, the end of a discovery is the rebuilt roster and CHAIN alone. -/
theorem discoveryEnded_active {s : State} {cause : DiscoveryCause} {f c : Nat} (ha : s.power.state = .active)
    (htail : s.clock.tail = []) : s.discoveryEnded cause f c = discovered cause f c s := by
  obtain ⟨_, hpower, _, hclock⟩ := discovered_rest cause f c s
  show (discovered cause f c s).afterDiscovery = _
  unfold State.afterDiscovery
  rw [hpower, ha]
  exact runTail_nil (by rw [hclock, htail])

/-- R81: the chain after a discovery is that of the rebuilt roster; the sequencer is not concerned. -/
theorem discovered_chain (cause : DiscoveryCause) (f c : Nat) (s : State) :
    (discovered cause f c s).chain = (s.rebuildRoster cause f c).chain ∧ (discovered cause f c s).seq = s.seq := by
  unfold discovered
  rw [raiseIf_rest]
  exact ⟨rfl, rfl⟩

/-- R81: each entry of the roster is rebuilt by its address. -/
theorem entry_rebuildRoster (cause : DiscoveryCause) (f c : Nat) (s : State) {a : Nat} (h : a < 16) :
    (s.rebuildRoster cause f c).entry a = (s.entry a).rebuilt f c a := by
  simp [State.entry, State.rebuildRoster, h]

/-- The roster is part of the chain. -/
theorem entry_of_chain {s t : State} (h : t.chain = s.chain) (a : Nat) : t.entry a = s.entry a := by
  unfold State.entry
  rw [h]

/-- R190: CHAIN stands after a raise as required exactly when it stood or was required. -/
theorem raiseIf_chain_iff (b : Bool) (s : State) :
    (s.raiseIf b .chain).attention.set.chain = true ↔ s.attention.set.chain = true ∨ b = true := by
  cases b
  case false => simp [State.raiseIf]
  case true => simp [State.raiseIf, Causes.put]

/-- R81: CHAIN is raised when monitors are missing or extra, which is when the counts differ. -/
theorem discovered_chain_raised (cause : DiscoveryCause) (f c : Nat) (s : State) :
    (discovered cause f c s).attention.set.chain = true ↔ s.attention.set.chain = true ∨ f ≠ c := by
  have differ : (decide (f < c) || decide (c < f)) = true ↔ f ≠ c := by
    rw [Bool.or_eq_true, decide_eq_true_iff, decide_eq_true_iff]
    exact Nat.ne_iff_lt_or_gt.symm
  exact (raiseIf_chain_iff _ _).trans (or_congr_right differ)

/-- Settles O39: the wait after WAKE_ALL and a reply move the enumeration alone; the silence ends the discovery, which
rebuilds the roster and the summary and raises CHAIN as required. -/
theorem enumerationFindsTheMonitors : Obligations.EnumerationFindsTheMonitors := by
  intro e s hv he
  refine ⟨fun hl => ?wait, fun m hl hr => ?reply, fun cause c ha hl hp htail => ?silence⟩
  case wait =>
    exact (event_of_supply State.enumDelayExpired s hv).trans (by rw [enumDelayExpired_waiting he hl])
  case reply =>
    exact (event_of_supply (fun u => u.upMessage m) s hv).trans
      (by rw [upMessage_listening m he hl hr, enumeration_take])
  case silence =>
    obtain ⟨t, hexec, same⟩ := event_takes State.enumSilenceExpired s hv
    rw [enumSilenceExpired_discovery he hl hp, discoveryEnded_active ha htail] at same
    obtain ⟨table, _, _, clock⟩ := discovered_rest cause e.found c s
    obtain ⟨chain, seq⟩ := discovered_chain cause e.found c s
    have hchain := same.chain.trans chain
    refine ⟨t, hexec, fun a h => ?_, ?_, ?_, ?_, ?_, ?_, ?_, same.clock.trans clock, ?_, same.table.trans table,
      same.seq.trans seq⟩
    · exact (entry_of_chain hchain a).trans (entry_rebuildRoster cause e.found c s h)
    · exact congrArg (·.foundCount) hchain
    · exact congrArg (·.expected) hchain
    · exact congrArg (·.extra) hchain
    · exact congrArg (·.cause) hchain
    · exact congrArg (·.tag) hchain
    · exact congrArg (·.enumeration) hchain
    · rw [same.attention]
      exact discovered_chain_raised cause e.found c s

end Sys2Proof.Proofs

/-! Pack Sense and the five discrete lines (chapter 5): the readings of a converter, the debounce stage, the tick of the
sense time, and what each change of a line does at the Contactor Sequencer, the Update Engine and the Power Manager. -/

namespace Sys2Proof.Proofs

open Sys2Proof.Machine Sys2Proof.Laws

/-! ### Readings (R88) -/

/-- R88: a reading at an end of the converter's range, or beyond it, carries no value. -/
theorem convertedValue_saturated {c : Converter} {r : Int}
    (h : r ≤ (converterEnds c).1 ∨ (converterEnds c).2 ≤ r) : convertedValue c r = none := if_pos h

/-- R88: a reading between the ends is clamped into the kind's range. -/
theorem convertedValue_clamped {c : Converter} {r : Int} (hlo : (converterEnds c).1 < r) (hhi : r < (converterEnds c).2) :
    convertedValue c r = some (max (converterKind c).range.1 (min (converterKind c).range.2 r)) :=
  if_neg (by omega)

/-- The ends of a converter enclose the range of its kind, and stand outside it. -/
theorem converterEnds_enclose (c : Converter) :
    (converterEnds c).1 < (converterKind c).range.1 ∧
      (converterKind c).range.1 ≤ (converterKind c).range.2 ∧ (converterKind c).range.2 < (converterEnds c).2 := by
  cases c <;> decide

/-- R88: the four places that a reading has between the ends of its converter. -/
theorem convertedValue_by_place (c : Converter) (r : Int) (hlo : (converterEnds c).1 ≤ r)
    (hhi : r ≤ (converterEnds c).2) :
    (r = (converterEnds c).1 ∨ r = (converterEnds c).2 → convertedValue c r = none) ∧
      (r ≠ (converterEnds c).1 → r < (converterKind c).range.1 →
        convertedValue c r = some (converterKind c).range.1) ∧
      ((converterKind c).range.1 ≤ r → r ≤ (converterKind c).range.2 → convertedValue c r = some r) ∧
      ((converterKind c).range.2 < r → r ≠ (converterEnds c).2 →
        convertedValue c r = some (converterKind c).range.2) := by
  obtain ⟨below, ordered, above⟩ := converterEnds_enclose c
  refine ⟨fun h => convertedValue_saturated (by omega), fun h h' => ?_, fun h h' => ?_, fun h h' => ?_⟩
  · rw [convertedValue_clamped (by omega) (by omega), Int.min_eq_right (by omega), Int.max_eq_left (by omega)]
  · rw [convertedValue_clamped (by omega) (by omega), Int.min_eq_right h', Int.max_eq_right h]
  · rw [convertedValue_clamped (by omega) (by omega), Int.min_eq_left (by omega), Int.max_eq_right ordered]

/-- Settles O36: the two voltage converters have the same ends, and their kinds the same range. -/
theorem readingsAreClampedOrSaturated : Obligations.ReadingsAreClampedOrSaturated := by
  refine ⟨convertedValue_by_place .shuntCurrent, fun c r hc hlo hhi => ?_⟩
  cases c with
  | shuntCurrent => exact absurd rfl hc
  | packVoltage => exact convertedValue_by_place .packVoltage r hlo hhi
  | busVoltage => exact convertedValue_by_place .busVoltage r hlo hhi

/-! ### A debounce stage (R95, R96) -/

section Debounce

variable {x : DebounceStage} {b : Bool} {now t : Word32}

theorem debounce_settles (h : x.level = some b) : x.step b now = x.settle := if_pos h

theorem debounce_begins (h : x.level ≠ some b) (hr : x.runLevel ≠ some b) : x.step b now = x.begin b now := by
  rw [DebounceStage.step, if_neg h, if_neg hr]

theorem debounce_extends (h : x.level ≠ some b) (hr : x.runLevel = some b) : x.step b now = x.extend b now := by
  rw [DebounceStage.step, if_neg h, if_pos hr]

/-- R95: below four samples a run grows and keeps the stamp of its first. -/
theorem debounce_extend_grows (hn : x.run < 3) (hr : x.runLevel = some b) (ht : x.runStamp = some t) :
    x.extend b now = { x with run := x.run + 1 } := by
  rw [DebounceStage.extend, if_neg (by omega), ht, Option.getD_some, ← ht, ← hr]

/-- R95: the fourth sample of a run sets the level, with the stamp of the first. -/
theorem debounce_extend_sets (hn : x.run = 3) (ht : x.runStamp = some t) :
    x.extend b now = { level := some b, run := 0, runLevel := none, runStamp := none, setStamp := some t } := by
  rw [DebounceStage.extend, if_pos (by omega), ht, Option.getD_some]

end Debounce

/-- Settles O40: a sample settles the stage, begins a run or extends it. -/
theorem debounceTakesFourSamples : Obligations.DebounceTakesFourSamples := by
  intro x b now
  refine ⟨debounce_settles, debounce_begins, fun t h hn hr ht => ?_, fun t h hn hr ht => ?_⟩
  · rw [debounce_extends h hr, debounce_extend_grows hn hr ht]
  · rw [debounce_extends h hr, debounce_extend_sets hn ht]

/-! ### A line sample (R93, R94, R96) -/

/-- The state in which the events of a line sample find the part: the stages have moved. -/
def stagesMoved (l : LineLevels) (s : State) : State := { s with sense := s.sense.sampled l }

theorem sampleLines_awake (l : LineLevels) {s : State} (h : s.power.state ≠ .loading) :
    s.sampleLines l = (stagesMoved l s).lineEvents (lineChanges s.sense (s.sense.sampled l)) := if_neg h

theorem sampleLines_loading (l : LineLevels) {s : State} (h : s.power.state = .loading) :
    s.sampleLines l = (stagesMoved l s).checkLoadingEnd := if_pos h

/-- R96: LOADING goes on while the load runs or a level is UNKNOWN. -/
theorem checkLoadingEnd_waits {s : State} (h : s.store.ready = false ∨ s.sense.allKnown = false) :
    s.checkLoadingEnd = s := by
  refine if_neg ?_
  rintro ⟨_, ready, known⟩
  rw [ready, known] at h
  simp at h

/-- Pack Sense and the Update Engine stand as they were. -/
structure Untampered (s t : State) : Prop where
  sense : t.sense = s.sense
  engine : t.engine = s.engine

theorem Untampered.trans {s t u : State} (h : Untampered s t) (k : Untampered t u) : Untampered s u :=
  ⟨k.sense.trans h.sense, k.engine.trans h.engine⟩

theorem untampered_of_sequences {s t : State} (h : OnlySequences s t) : Untampered s t := ⟨h.sense, h.engine⟩

theorem gather_untampered (s : State) (c : WakeName) : Untampered s (s.gather c) := by
  obtain ⟨engine, sense, _⟩ := gather_keeps s c
  exact ⟨sense, engine⟩

theorem crashEvent_untampered (s : State) : Untampered s s.crashEvent :=
  (untampered_of_sequences (crashAtSequencer_sequences s)).trans (gather_untampered _ .crash)

/-- R97 to R99: no event but the tamper event touches the Update Engine, and none touches Pack Sense. -/
theorem lineEvents_untampered (x : LineChanges) (s : State) : Untampered s (s.lineEvents { x with lid := none }) := by
  have edges := (auxChange_sequences s .neg x.auxNeg).trans (auxChange_sequences _ .pos x.auxPos)
  have crash := onHigh_keeps (Untampered s) x.crash State.crashEvent _ (untampered_of_sequences edges)
    fun t ht => ht.trans (crashEvent_untampered t)
  exact onHigh_keeps (Untampered s) x.wake (fun t => t.gather .line) _ crash
    fun t ht => ht.trans (gather_untampered t .line)

/-- R96: the lid comes last. -/
theorem lineEvents_lid (x : LineChanges) (s : State) :
    s.lineEvents x = (s.lineEvents { x with lid := none }).onHigh x.lid State.tamperEvent := rfl

theorem lineEvents_sense (x : LineChanges) (s : State) : (s.lineEvents x).sense = s.sense := by
  rw [lineEvents_lid]
  refine onHigh_keeps (fun t => t.sense = s.sense) x.lid State.tamperEvent _ (lineEvents_untampered x s).sense ?_
  intro t ht
  obtain ⟨_, _, _, sense⟩ := tamperEvent_latches t
  exact sense.trans ht

/-- R100, R180: a lid that opens latches the tamper, whatever the other lines do in the same sample. -/
theorem lineEvents_tampers {x : LineChanges} {stamp : Word32} (h : x.lid = some (true, stamp)) (s : State) :
    (s.lineEvents x).engine.tamperLatch = true ∧ (s.lineEvents x).attention.set.tamper = true ∧
      (s.lineEvents x).engine.tamperCount = satIncr s.engine.tamperCount := by
  rw [lineEvents_lid, h]
  obtain ⟨latch, raised, count, _⟩ := tamperEvent_latches (s.lineEvents { x with lid := none })
  rw [(lineEvents_untampered x s).engine] at count
  exact ⟨latch, raised, count⟩

/-- R93, R94: a line sample moves the sense time and the five stages, in every power state. -/
theorem sampleLines_sense (l : LineLevels) (s : State) : (s.sampleLines l).sense = s.sense.sampled l := by
  by_cases hp : s.power.state = .loading
  · rw [sampleLines_loading l hp]
    unfold State.checkLoadingEnd
    split
    · exact lineEvents_sense _ _
    · rfl
  · rw [sampleLines_awake l hp]
    exact lineEvents_sense _ _

/-! ### The tick of the sense time (R93, log 2, log 17) -/

/-- The next multiple of ten after a count that one tick takes to a multiple of ten. -/
theorem nextTen_of_tick {n : Nat} (h : (n + 1) % 10 = 0) : (n / 10 + 1) * 10 = n + 1 := by omega

/-- R93: the next sample time before the wrap, and at it. -/
theorem nextSampleTime_below {t : Word32} (h : (t.toNat / 10 + 1) * 10 < 4294967296) :
    nextSampleTime t = BitVec.ofNat 32 ((t.toNat / 10 + 1) * 10) := if_pos h

theorem nextSampleTime_wraps {t : Word32} (h : ¬(t.toNat / 10 + 1) * 10 < 4294967296) : nextSampleTime t = 0 := if_neg h

/-- R93: short of the wrap the sense time has a next count. -/
theorem tick_fits {t : Word32} (h : t ≠ 4294967295) : t.toNat + 1 < 4294967296 := by bv_omega

/-- R93: a count that reaches a whole millisecond reaches the next sample time, over the wrap too. -/
theorem nextSampleTime_of_tick {t : Word32} (h : (t + 1).toNat % 10 = 0) : nextSampleTime t = t + 1 := by
  by_cases wraps : t = 4294967295
  · subst wraps
    exact nextSampleTime_wraps (by decide)
  · have fits := tick_fits wraps
    have count : (t + 1).toNat = t.toNat + 1 := BitVec.toNat_add_of_lt fits
    rw [count] at h
    have next := nextTen_of_tick h
    rw [nextSampleTime_below (Nat.lt_of_le_of_lt (Nat.le_of_eq next) fits), next, ← count, BitVec.ofNat_toNat, BitVec.setWidth_eq]

/-- R93: an idle step advances the sense time by one count, with a line sample or without. -/
theorem passTime_time (s : State) : s.passTime.sense.time = s.sense.time + 1 := by
  unfold State.passTime
  split
  case isTrue h =>
    rw [sampleLines_sense]
    exact nextSampleTime_of_tick h
  case isFalse => rfl

/-- An empty queue lets time pass. -/
theorem step_empty {s : State} (hq : s.pending = []) (hv : s.vsup = true) : step s = .next s.passTime.drive := by
  unfold step
  rw [hq]
  exact event_of_supply State.passTime s hv

/-- Settles O2: between two whole milliseconds nothing but the sense time moves. -/
theorem idleStepAdvancesSenseTime : Obligations.IdleStepAdvancesSenseTime := by
  intro s hq hv
  refine ⟨s.passTime.drive, step_empty hq hv, passTime_time s, fun h => ?_⟩
  rw [State.passTime, if_neg h]

end Sys2Proof.Proofs

/-! What each change of a line does (R94 to R100): an auxiliary edge and a crash event at the Contactor Sequencer by its
state, a tamper event at the Update Engine, and a wake cause at the Power Manager by its state. -/

namespace Sys2Proof.Proofs

open Sys2Proof.Machine Sys2Proof.Laws

/-! ### Transitions of the sequencer (R107, R108, R120) -/

/-- R120: the lockout entered from OPEN. -/
theorem lockoutAtRest_eq (s : State) (c : LockoutCause) (last : Cause) :
    s.lockoutAtRest c last =
      ({ s with seq :=
        { s.seq with
          state := .lockout, timer := none, context := none, lastCause := some last
          lockoutCause := some c } } : State).recorded := enterLockout_eq _ c

theorem unlessInhibited_goes {s : State} (go : State → State) (h : s.table.inhibitSet = []) :
    s.unlessInhibited go = go s := by
  unfold State.unlessInhibited
  rw [h]

theorem unlessInhibited_opens {s : State} (go : State → State) {i : Nat} {more : List Nat}
    (h : s.table.inhibitSet = i :: more) : s.unlessInhibited go = s.enterOpening (.inhibit i) := by
  unfold State.unlessInhibited
  rw [h]

/-- R104, R108: the precharge timer runs for the profile's timeout. -/
theorem enterPrecharging_eq {s : State} {p : Profile} (h : s.seq.profile = some p) :
    s.enterPrecharging =
      { s with seq :=
        { s.seq with
          state := .precharging, coilInstant := s.sense.time
          timer := some { name := .precharge, start := s.sense.time, counts := 10 * p.prechargeTimeout } } } := by
  have hp : s.profileOr = p := by rw [State.profileOr, h, Option.getD_some]
  unfold State.enterPrecharging
  rw [hp]
  rfl

/-! ### Auxiliary edges that move the sequencer (R108 to R110, R115, R120) -/

section Edges

variable {s : State} {stamp : Word32}

/-- R120: at rest a contact that closes is stuck. -/
theorem auxEdge_opened_close (m : Main) (h : s.seq.state = .opened) :
    s.auxEdge m true stamp =
      ({ s with seq :=
        { s.seq with
          state := .lockout, timer := none, context := none, lastCause := some (auxStuck m)
          lockoutCause := some (auxStuckLockout m) } } : State).recorded := by
  simp only [State.auxEdge, h, lockoutAtRest_eq]

/-- R108, R110: from 3 ms after the coil instant an edge is a confirmation, and no sooner. -/
theorem confirms_late (late : 30 ≤ (s.sense.time - s.seq.coilInstant).toNat) : s.confirms = true := decide_eq_true late

theorem confirms_early (early : (s.sense.time - s.seq.coilInstant).toNat < 30) : ¬s.confirms = true := by
  rw [State.confirms, decide_eq_true_iff, Nat.not_le]
  exact early

theorem auxEdge_negClosing_close (h : s.seq.state = .negClosing) :
    s.auxEdge .neg true stamp =
      if s.confirms then (s.recordClose .neg stamp).unlessInhibited State.enterPrecharging
      else s.enterOpening .auxStuckNeg := by
  simp only [State.auxEdge, h]

theorem auxEdge_posClosing_close (h : s.seq.state = .posClosing) :
    s.auxEdge .pos true stamp =
      if s.confirms then (s.recordClose .pos stamp).unlessInhibited State.enterClosed
      else s.enterOpening .auxStuckPos := by
  simp only [State.auxEdge, h]

/-- R107: a confirmed main goes no further while points inhibit it: the lowest of them is the cause. -/
theorem recordClose_inhibited {m : Main} (go : State → State) {i : Nat} {more : List Nat}
    (hi : s.table.inhibitSet = i :: more) :
    (s.recordClose m stamp).unlessInhibited go = (s.recordClose m stamp).enterOpening (.inhibit i) :=
  unlessInhibited_opens go (by cases m <;> exact hi)

/-- R108: the negative main confirmed, PRECHARGING is entered. -/
theorem recordClose_precharges {p : Profile} (hi : s.table.inhibitSet = []) (hp : s.seq.profile = some p) :
    (s.recordClose .neg stamp).unlessInhibited State.enterPrecharging =
      { s.recordClose .neg stamp with seq :=
        { (s.recordClose .neg stamp).seq with
          state := .precharging, coilInstant := s.sense.time
          timer := some { name := .precharge, start := s.sense.time, counts := 10 * p.prechargeTimeout } } } := by
  rw [unlessInhibited_goes (s := s.recordClose .neg stamp) _ hi]
  exact enterPrecharging_eq (s := s.recordClose .neg stamp) hp

/-- R110: the positive main confirmed, CLOSED is entered. -/
theorem recordClose_closes (hi : s.table.inhibitSet = []) :
    (s.recordClose .pos stamp).unlessInhibited State.enterClosed =
      ({ s.recordClose .pos stamp with seq :=
        { (s.recordClose .pos stamp).seq with
          state := .closed, coilInstant := s.sense.time, timer := none } } : State).recorded := by
  rw [unlessInhibited_goes (s := s.recordClose .pos stamp) _ hi]
  exact enterClosed_eq (s.recordClose .pos stamp)

/-- R108, R109: before its coil is on the positive main is stuck when it closes. -/
theorem auxEdge_pos_stuck (h : s.seq.state = .negClosing ∨ s.seq.state = .precharging) :
    s.auxEdge .pos true stamp = s.enterOpening .auxStuckPos := by
  rcases h with h | h <;> simp only [State.auxEdge, h]

/-- R109, R110, R115: a negative main that was confirmed is lost when it opens. -/
theorem auxEdge_neg_lost (h : s.seq.state = .precharging ∨ s.seq.state = .posClosing ∨ s.seq.state = .closed ∨
    s.seq.state = .deferring) : s.auxEdge .neg false stamp = s.enterOpening .auxLostNeg := by
  rcases h with h | h | h | h <;> simp only [State.auxEdge, h, auxLost]

/-- R115: so is the positive main of a closed pack. -/
theorem auxEdge_pos_lost (h : s.seq.state = .closed ∨ s.seq.state = .deferring) :
    s.auxEdge .pos false stamp = s.enterOpening .auxLostPos := by
  rcases h with h | h <;> simp only [State.auxEdge, h, auxLost]

/-! ### Auxiliary edges without effect (R118, R121) -/

theorem auxEdge_opened_open (m : Main) (h : s.seq.state = .opened) : s.auxEdge m false stamp = s := by
  simp only [State.auxEdge, h]

theorem auxEdge_lockout (m : Main) (b : Bool) (h : s.seq.state = .lockout) : s.auxEdge m b stamp = s := by
  simp only [State.auxEdge, h]

theorem auxEdge_negClosing_open (m : Main) (h : s.seq.state = .negClosing) : s.auxEdge m false stamp = s := by
  simp only [State.auxEdge, h]

theorem auxEdge_neg_closed_already (h : s.seq.state = .precharging ∨ s.seq.state = .posClosing) :
    s.auxEdge .neg true stamp = s := by
  rcases h with h | h <;> simp only [State.auxEdge, h]

theorem auxEdge_pos_open_already
    (h : s.seq.state = .negClosing ∨ s.seq.state = .precharging ∨ s.seq.state = .posClosing) :
    s.auxEdge .pos false stamp = s := by
  rcases h with h | h | h <;> simp only [State.auxEdge, h]

theorem auxEdge_closed_already (m : Main) (h : s.seq.state = .closed ∨ s.seq.state = .deferring) :
    s.auxEdge m true stamp = s := by
  rcases h with h | h <;> simp only [State.auxEdge, h]

/-! ### Auxiliary edges in OPENING (R118, R123) -/

theorem auxEdge_opening_close (m : Main) (h : s.seq.state = .opening) : s.auxEdge m true stamp = s := by
  simp only [State.auxEdge, h]

theorem auxEdge_opening_open (m : Main) (h : s.seq.state = .opening) :
    s.auxEdge m false stamp = s.recordOpen m stamp := by
  simp only [State.auxEdge, h]

variable {x : OpeningContext}

/-- R118: the open time of a main that was on, counted from the coil instant. -/
theorem recordOpen_neg (h : s.seq.context = some x) (on : x.negWasOn = true)
    (after : s.openedBefore stamp x.deEnergizedAt = false) :
    s.recordOpen .neg stamp = { s with seq := { s.seq with lastOpenNeg := some (stamp - x.deEnergizedAt) } } := by
  simp [State.recordOpen, h, on, after]

theorem recordOpen_pos (h : s.seq.context = some x) (on : x.posWasOn = true)
    (after : s.openedBefore stamp x.deEnergizedAt = false) :
    s.recordOpen .pos stamp = { s with seq := { s.seq with lastOpenPos := some (stamp - x.deEnergizedAt) } } := by
  simp [State.recordOpen, h, on, after]

/-- R118, R123: a main that was off, or that opened before the coil instant, gets no time. -/
theorem recordOpen_neg_none (h : s.seq.context = some x)
    (untimed : x.negWasOn = false ∨ s.openedBefore stamp x.deEnergizedAt = true) : s.recordOpen .neg stamp = s := by
  rcases untimed with off | before
  · simp [State.recordOpen, h, off]
  · exact recordOpen_before s .neg stamp x h before

theorem recordOpen_pos_none (h : s.seq.context = some x)
    (untimed : x.posWasOn = false ∨ s.openedBefore stamp x.deEnergizedAt = true) : s.recordOpen .pos stamp = s := by
  rcases untimed with off | before
  · simp [State.recordOpen, h, off]
  · exact recordOpen_before s .pos stamp x h before

end Edges

/-! ### Crash events at the sequencer (R111, R115, R118, R120, R121) -/

section Crash

variable {s : State}

theorem crashAtSequencer_opened (h : s.seq.state = .opened) :
    s.crashAtSequencer =
      ({ s with seq :=
        { s.seq with
          state := .lockout, timer := none, context := none, lastCause := some .crash
          lockoutCause := some .crash } } : State).recorded := by
  simp only [State.crashAtSequencer, h, lockoutAtRest_eq]

theorem crashAtSequencer_opens
    (h : (s.seq.state = .negClosing ∨ s.seq.state = .precharging ∨ s.seq.state = .posClosing) ∨
      s.seq.state = .closed ∨ s.seq.state = .deferring) : s.crashAtSequencer = s.enterOpening .crash := by
  rcases h with (h | h | h) | h | h <;> simp only [State.crashAtSequencer, h]

theorem crashAtSequencer_opening {x : OpeningContext} (h : s.seq.state = .opening) (hx : s.seq.context = some x) :
    s.crashAtSequencer = { s with seq := { s.seq with context := some { x with crashSeen := true } } } := by
  simp only [State.crashAtSequencer, h, State.noteCrash, hx, Option.map_some]

theorem crashAtSequencer_lockout (h : s.seq.state = .lockout) : s.crashAtSequencer = s := by
  simp only [State.crashAtSequencer, h]

end Crash

/-! ### Tamper events at the Update Engine (R180) -/

/-- R180: the latch set and the event counted. -/
def latched (s : State) : State :=
  { s with engine := { s.engine with tamperLatch := true, tamperCount := satIncr s.engine.tamperCount } }

/-- R180: the latch recorded: a counter write requested with it, and TAMPER raised. -/
def tampered (s : State) : State :=
  { latched s with
    store := s.store.requested false (latched s).snapshot
    attention := { s.attention with set := { s.attention.set with tamper := true } } }

theorem tamperAtEngine_eq (s : State) : s.tamperAtEngine = (tampered s).endTampered := by
  show (((latched s).requestCounterWrite false).raise .tamper).endTampered = _
  rw [requestCounterWrite_eq]
  rfl

/-- R180: with no transaction in STAGING or VERIFYING nothing more happens. -/
theorem endTampered_closed {s : State} (h : ¬(s.engine.state = .staging ∨ s.engine.state = .verifying)) :
    s.endTampered = s := by
  unfold State.endTampered
  split
  case h_1 staging => exact absurd (.inl staging) h
  case h_2 verifying => exact absurd (.inr verifying) h
  all_goals rfl

theorem endTampered_open {s : State} (h : s.engine.state = .staging ∨ s.engine.state = .verifying) :
    s.endTampered = s.endTransaction .tampered none none := by
  rcases h with h | h <;> simp only [State.endTampered, h]

/-! ### Wake causes at the Power Manager (R144) -/

/-- R143, R144: what the entry to WAKING writes. -/
theorem enterWaking_eq (s : State) :
    s.enterWaking =
      { s with
        power := { s.power with state := .waking, sleepTimer := none }
        port := { s.port with slot :=
          if s.power.wakeSet.request = true then .holding (answerFrame codeWake .accepted []) else .empty }
        clock := { s.clock with discoveryRunning := true, discoveryPending := false }
        chain :=
          { s.chain with
            enumeration := some
              { purpose := .discovery .wake s.clock.active.monitorCount, listening := false, counting := true,
                found := 0 }
            sent := s.chain.sent ++ [withCrc8 [0x02]] } } := rfl

/-! ### The end of LOADING (R96, R128) -/

/-- R128: a sample that makes the last level known ends LOADING once the load is over. -/
theorem sampleLines_ends_loading {l : LineLevels} {s : State} (hp : s.power.state = .loading)
    (hr : s.store.ready = true) (hk : (s.sense.sampled l).allKnown = true) :
    (s.sampleLines l).power.state = .discovering ∧
      (s.sampleLines l).chain.enumeration = some
        { purpose := .discovery .start s.clock.active.monitorCount, listening := false, counting := true,
          found := 0 } := by
  rw [sampleLines_loading l hp, checkLoadingEnd_ends (s := stagesMoved l s) hp hr hk]
  obtain ⟨_, _, _, power, enumeration⟩ := enterDiscovering_starts (stagesMoved l s)
  have kept := lineEvents_keepsLoad (stagesMoved l s).sense.awayLines power
  exact ⟨kept.power ▸ power, kept.chain ▸ enumeration⟩

/-! ### Line samples by their changes -/

/-- R96: outside LOADING a sample leads to what the events of its changes lead to. -/
theorem lineSample_leads {l : LineLevels} {s t : State} {x : LineChanges} (hv : s.vsup = true)
    (h : (stagesMoved l s).lineEvents x = t) (hp : s.power.state ≠ .loading)
    (hx : lineChanges s.sense (s.sense.sampled l) = x) : exec (.lineSample l) s = .next t.drive := by
  subst hx h
  exact lineSample_events l s hv hp

/-- Settles O41: one rule for each single change of a line, by the state of the block that its event reaches. -/
theorem lineSampleMovesTheStages : Obligations.LineSampleMovesTheStages := by
  intro l s hv u changes leads since stuck closing high
  have leads_of (x : LineChanges) (t : State) (h : u.lineEvents x = t) : leads x t := lineSample_leads hv h
  have edge (m : Main) (b : Bool) (stamp : Word32) (t : State) (h : u.auxEdge m b stamp = t) :
      leads (.edge m b stamp) t := leads_of _ t ((lineEvents_edge u m b stamp).trans h)
  have crash (stamp : Word32) (t : State) (h : u.crashAtSequencer = t) :
      leads { LineChanges.none with crash := high stamp } (t.gather .crash) :=
    leads_of _ _ (congrArg (State.gather .crash) h)
  have tamper (stamp : Word32) (t : State) (h : (tampered u).endTampered = t) :
      leads { LineChanges.none with lid := high stamp } (t.gather .tamper) :=
    leads_of _ _ (congrArg (State.gather .tamper) ((tamperAtEngine_eq u).trans h))
  have taken : exec (.lineSample l) s = .next (s.sampleLines l).drive := event_of_supply (State.sampleLines l) s hv
  refine ⟨⟨_, taken, sampleLines_sense l s, fun stamp hp hlid => ?lidOpens⟩, fun hp hw => ?loading,
    fun hp hr hk => ⟨_, taken, sampleLines_ends_loading hp hr hk⟩,
    leads_of _ _ rfl, fun _ => leads_of _ _ rfl, fun _ => leads_of _ _ rfl, fun _ => leads_of _ _ rfl,
    fun stamp h => edge _ _ _ _ (auxEdge_opened_close .neg h), fun stamp h => edge _ _ _ _ (auxEdge_opened_close .pos h),
    fun m stamp h => edge _ _ _ _ (auxEdge_opened_open m h), fun m b stamp h => edge _ _ _ _ (auxEdge_lockout m b h),
    fun stamp p h hp => ?confirmNeg, fun stamp h => ?confirmPos,
    fun stamp h => edge _ _ _ _ (auxEdge_pos_stuck h), fun stamp h => edge _ _ _ _ (auxEdge_neg_lost h),
    fun stamp h => edge _ _ _ _ (auxEdge_pos_lost h),
    fun stamp h => edge _ _ _ _ (auxEdge_negClosing_open .neg h),
    fun stamp h => edge _ _ _ _ (auxEdge_neg_closed_already h),
    fun stamp h => edge _ _ _ _ (auxEdge_pos_open_already h),
    fun m stamp h => edge _ _ _ _ (auxEdge_closed_already m h),
    fun m stamp h => edge _ _ _ _ (auxEdge_opening_close m h),
    fun stamp x h hx => ?opening, fun stamp => ?crash, fun stamp => leads_of _ _ rfl, fun stamp => ?tamper,
    fun x v => ?gather, fun hp => lineSample_leads hv rfl hp rfl, fun x v => rfl⟩
  case lidOpens =>
    show (s.sampleLines l).engine.tamperLatch = true ∧ (s.sampleLines l).attention.set.tamper = true ∧
      (s.sampleLines l).engine.tamperCount = satIncr s.engine.tamperCount
    rw [sampleLines_awake l hp]
    exact lineEvents_tampers hlid (stagesMoved l s)
  case loading =>
    rw [taken, sampleLines_loading l hp, checkLoadingEnd_waits (s := stagesMoved l s) hw]
    rfl
  case confirmNeg =>
    have close : u.auxEdge .neg true stamp = _ := auxEdge_negClosing_close h
    have confirmed (late : 30 ≤ since.toNat) := close.trans (if_pos (confirms_late (s := u) late))
    exact ⟨fun early => edge _ _ _ _ (close.trans (if_neg (confirms_early (s := u) early))),
      fun late hi => edge _ _ _ _ ((confirmed late).trans (recordClose_precharges (s := u) hi hp)),
      fun i more late hi => edge _ _ _ _ ((confirmed late).trans (recordClose_inhibited (s := u) _ hi))⟩
  case confirmPos =>
    have close : u.auxEdge .pos true stamp = _ := auxEdge_posClosing_close h
    have confirmed (late : 30 ≤ since.toNat) := close.trans (if_pos (confirms_late (s := u) late))
    exact ⟨fun early => edge _ _ _ _ (close.trans (if_neg (confirms_early (s := u) early))),
      fun late hi => edge _ _ _ _ ((confirmed late).trans (recordClose_closes (s := u) hi)),
      fun i more late hi => edge _ _ _ _ ((confirmed late).trans (recordClose_inhibited (s := u) _ hi))⟩
  case opening =>
    have records (m : Main) : u.auxEdge m false stamp = u.recordOpen m stamp := auxEdge_opening_open m h
    exact ⟨fun on after => edge _ _ _ _ ((records .neg).trans (recordOpen_neg hx on (decide_eq_false after))),
      fun off => edge _ _ _ _ ((records .neg).trans (recordOpen_neg_none hx (off.imp_right decide_eq_true))),
      fun on after => edge _ _ _ _ ((records .pos).trans (recordOpen_pos hx on (decide_eq_false after))),
      fun off => edge _ _ _ _ ((records .pos).trans (recordOpen_pos_none hx (off.imp_right decide_eq_true)))⟩
  case crash =>
    exact ⟨fun h => crash _ _ (crashAtSequencer_opened h),
      fun h => crash _ _ (crashAtSequencer_opens h), fun x h hx => crash _ _ (crashAtSequencer_opening h hx),
      fun h => crash _ _ (crashAtSequencer_lockout h)⟩
  case tamper =>
    exact ⟨fun h => tamper stamp _ (endTampered_closed (s := tampered u) h),
      fun h => tamper stamp _ (endTampered_open (s := tampered u) h)⟩
  case gather =>
    exact ⟨gather_awake v x, gather_gathers v x, fun h => (gather_wakes v x h).trans (enterWaking_eq _)⟩

end Sys2Proof.Proofs

/-! The pins (R103, R127, R191, log 8, log 28): the levels that every command leaves them at. -/

namespace Sys2Proof.Proofs

open Sys2Proof.Machine Sys2Proof.Laws

/-! ### The levels the state asks for -/

/-- The levels are asked for by the other fields, so driven pins stand at them. -/
theorem drive_pinsFollow (s : State) : s.drive.pinsFollow := rfl

/-- Log 8: without supply the pins are low, as a part without supply asks. -/
theorem losePower_pinsFollow (s : State) : s.losePower.pinsFollow := rfl

/-! ### Commands and steps -/

/-- Every command but the two of the supply is an event: a part without supply ignores it, and one with supply ends it by
driving the pins. -/
theorem exec_event (c : Instr) (h : c ≠ .powerOn ∧ c ≠ .powerLoss) (s : State) : ∃ f, exec c s = event f s := by
  cases c
  case powerOn => exact absurd rfl h.1
  case powerLoss => exact absurd rfl h.2
  all_goals exact ⟨_, rfl⟩

theorem event_keeps_pinsFollow {f : State → State} {s t : State} (hs : s.pinsFollow) (h : event f s = .next t) :
    t.pinsFollow := by
  cases hv : s.vsup with
  | true =>
    rw [event_of_supply f s hv] at h
    cases h
    exact drive_pinsFollow _
  | false =>
    rw [event_without_supply f s hv] at h
    cases h
    exact hs

theorem execPowerLoss_keeps_pinsFollow {s t : State} (hs : s.pinsFollow) (h : execPowerLoss s = .next t) :
    t.pinsFollow := by
  unfold execPowerLoss at h
  split at h <;> cases h
  · exact losePower_pinsFollow s
  · exact hs

theorem exec_keeps_pinsFollow {c : Instr} {s t : State} (hs : s.pinsFollow) (h : exec c s = .next t) :
    t.pinsFollow := by
  by_cases hon : c = .powerOn
  · subst hon
    cases h
    exact drive_pinsFollow _
  by_cases hloss : c = .powerLoss
  · subst hloss
    exact execPowerLoss_keeps_pinsFollow hs h
  obtain ⟨f, hf⟩ := exec_event c ⟨hon, hloss⟩ s
  exact event_keeps_pinsFollow hs (hf.symm.trans h)

/-- Settles O5: a step is the passing of time, which is an event, or the front command on the queue's rest; the levels do
not depend on the queue. -/
theorem stepKeepsPinsFollowing : Obligations.StepKeepsPinsFollowing := by
  intro s t hs h
  unfold step at h
  split at h
  case h_1 empty => exact event_keeps_pinsFollow hs h
  case h_2 c rest front => exact exec_keeps_pinsFollow (s := { s with pending := rest }) hs h

end Sys2Proof.Proofs

/-! The transitions of the Contactor Sequencer (chapter 6) outside the line events: its entries by the profile's settings,
its four requests, its notices and reference samples, and the expiries of its timers. -/

namespace Sys2Proof.Proofs

open Sys2Proof.Machine Sys2Proof.Laws

/-! ### The entry to OPENING (R116, R117) -/

theorem satIncr_word32 (x : Word32) : satIncr x = if x ≠ BitVec.allOnes 32 then x + 1 else x := by
  rw [satIncr, ite_not]

/-- Settles O42: the loaded counts move only where the opening is loaded, and nothing else hangs on that. -/
theorem entryToOpening : Obligations.EntryToOpening := by
  intro cause s loaded count
  have hl : s.opensLoaded = loaded := rfl
  unfold State.enterOpening State.countLoaded
  rw [hl]
  cases h : loaded with
  | false => simp [count, h, State.timerOf, State.profileOr]
  | true => simp [count, h, State.timerOf, State.profileOr, satIncr_word32]

/-! ### Entries by the profile's settings (R101, R104) -/

section Entries

variable {s : State} {p : Profile}

theorem profileOr_of_profile (h : s.seq.profile = some p) : s.profileOr = p := by
  rw [State.profileOr, h, Option.getD_some]

theorem enterNegClosing_eq (h : s.seq.profile = some p) :
    s.enterNegClosing =
      { s with seq :=
        { s.seq with
          state := .negClosing, coilInstant := s.sense.time
          timer := some { name := .auxConfirm, start := s.sense.time, counts := 10 * p.auxConfirm } } } := by
  rw [State.enterNegClosing, profileOr_of_profile h]
  rfl

theorem enterPosClosing_eq (h : s.seq.profile = some p) :
    s.enterPosClosing =
      { s with seq :=
        { s.seq with
          state := .posClosing, coilInstant := s.sense.time
          timer := some { name := .auxConfirm, start := s.sense.time, counts := 10 * p.auxConfirm } } } := by
  rw [State.enterPosClosing, profileOr_of_profile h]
  rfl

theorem enterDeferring_eq (h : s.seq.profile = some p) :
    s.enterDeferring =
      { s with seq :=
        { s.seq with
          state := .deferring, lastCause := some .requestedOpen
          timer := some { name := .defer, start := s.sense.time, counts := 10 * p.deferMax } } } := by
  rw [State.enterDeferring, profileOr_of_profile h]
  rfl

end Entries

/-! ### CLOSE and CLRLOCK (R106, R122) -/

section Close

variable {s : State}

theorem profileInFlight_iff (s : State) :
    s.profileInFlight = true ↔ s.engine.state.inFlight = true ∧ s.stagedProfile? ≠ none := by
  rw [State.profileInFlight, Bool.and_eq_true, Option.isSome_iff_ne_none]

/-- R106: CLOSE is taken in ACTIVE and OPEN alone. -/
theorem takeClose_state (h : ¬(s.power.state = .active ∧ s.seq.state = .opened)) : takeClose s = refuse .state s :=
  if_pos (Decidable.not_and_iff_or_not.1 h)

/-- R106: in ACTIVE and OPEN the other refusals come in their order. -/
theorem takeClose_ready (h : s.power.state = .active ∧ s.seq.state = .opened) :
    takeClose s =
      if s.seq.profile.isNone then refuse .noProfile s
      else if !s.table.inhibitSet.isEmpty then refuse .inhibited s
      else if s.profileInFlight then refuse .busy s
      else (s.enterNegClosing, .now .accepted []) :=
  if_neg fun off => off.elim (· h.1) (· h.2)

theorem takeClose_noProfile (h : s.power.state = .active ∧ s.seq.state = .opened) (hp : s.seq.profile = none) :
    takeClose s = refuse .noProfile s := by
  simp [takeClose_ready h, hp]

theorem takeClose_inhibited (h : s.power.state = .active ∧ s.seq.state = .opened) (hp : s.seq.profile ≠ none)
    (hi : s.table.inhibitSet ≠ []) : takeClose s = refuse .inhibited s := by
  simp [takeClose_ready h, hp, hi]

theorem takeClose_busy (h : s.power.state = .active ∧ s.seq.state = .opened) (hp : s.seq.profile ≠ none)
    (hi : s.table.inhibitSet = []) (hf : s.profileInFlight = true) : takeClose s = refuse .busy s := by
  simp [takeClose_ready h, hp, hi, hf]

theorem takeClose_accepted (h : s.power.state = .active ∧ s.seq.state = .opened) (hp : s.seq.profile ≠ none)
    (hi : s.table.inhibitSet = []) (hf : ¬s.profileInFlight = true) :
    takeClose s = (s.enterNegClosing, .now .accepted []) := by
  simp [takeClose_ready h, hp, hi, hf]

theorem takeClrlock_state (h : s.seq.state ≠ .lockout) : takeClrlock s = refuse .state s := if_pos h

/-- R122: in LOCKOUT the three debounced levels decide. -/
theorem takeClrlock_lockout (h : s.seq.state = .lockout) :
    takeClrlock s =
      if s.sense.auxNeg.level = some false ∧ s.sense.auxPos.level = some false ∧ s.sense.crash.level = some false then
        (s.enterOpen, .now .done [])
      else refuse .notClear s := by
  rw [takeClrlock, if_neg (absurd h)]
  simp only [ne_eq, ← Decidable.not_and_iff_or_not, ite_not]

end Close

/-- Settles O43: each clause is one branch of what the owner answers, whose tests do not see the port. -/
theorem closeAndClrlockTakeOrRefuse : Obligations.CloseAndClrlockTakeOrRefuse := by
  intro s
  refine ⟨fun hh => ?close, fun hh => ?clrlock⟩
  case close =>
    intro refused ready
    have refuses (a : AnswerCode) (h : takeClose (received 0 s) = refuse a (received 0 s)) : refused a :=
      request_refuses _ [] _ _ _ hh h
    refine ⟨fun h => refuses _ (takeClose_state h), fun h hp => refuses _ (takeClose_noProfile h hp),
      fun h hp hi => refuses _ (takeClose_inhibited h hp hi),
      fun h hp hi hf hs => refuses _ (takeClose_busy h hp hi ((profileInFlight_iff s).2 ⟨hf, hs⟩)),
      fun p h hp hi hf => request_answers _ [] _ _ _ _ _ hh ?_⟩
    have hn : (received 0 s).seq.profile ≠ none := Option.ne_none_iff_exists'.2 ⟨p, hp⟩
    have hf : ¬(received 0 s).profileInFlight = true := fun busy => by
      obtain ⟨inFlight, staged⟩ := (profileInFlight_iff s).1 busy
      exact hf.elim (fun off => absurd inFlight (by rw [off]; decide)) staged
    rw [List.length_nil, takeClose_accepted (s := received 0 s) h hn hi hf, enterNegClosing_eq (s := received 0 s) hp]
    rfl
  case clrlock =>
    intro refused clear
    have refuses (a : AnswerCode) (h : takeClrlock (received 0 s) = refuse a (received 0 s)) : refused a :=
      request_refuses _ [] _ _ _ hh h
    refine ⟨fun h => refuses _ (takeClrlock_state h),
      fun h off => refuses _ ((takeClrlock_lockout (s := received 0 s) h).trans (if_neg off)),
      fun h hc => request_answers _ [] _ _ _ _ _ hh ?_⟩
    have cleared := (takeClrlock_lockout (s := received 0 s) h).trans (if_pos hc)
    rw [List.length_nil, cleared, enterOpen_eq]
    rfl

/-! ### OPEN and TRIP (R111 to R114) -/

section Open

variable {s : State}

theorem takeOpen_closing (h : s.seq.state = .negClosing ∨ s.seq.state = .precharging ∨ s.seq.state = .posClosing) :
    takeOpen s = (s.enterOpening .requestedOpen, .now .accepted []) := by
  rcases h with h | h | h <;> simp only [takeOpen, h]

theorem takeOpen_closed (h : s.seq.state = .closed) : takeOpen s = (s.openFromClosed, .now .accepted []) := by
  simp only [takeOpen, h]

theorem takeOpen_deferring (h : s.seq.state = .deferring) : takeOpen s = (s, .now .accepted []) := by
  simp only [takeOpen, h]

theorem takeOpen_atRest (h : s.seq.state = .opened ∨ s.seq.state = .opening ∨ s.seq.state = .lockout) :
    takeOpen s = (s, .now .done []) := by
  rcases h with h | h | h <;> simp only [takeOpen, h]

theorem deferExpired_deferring (h : s.seq.state = .deferring) : s.deferExpired = s.enterOpening .requestedOpen := by
  simp only [State.deferExpired, h]

theorem openFromClosed_breakable (h : s.currentBreakable = true) :
    s.openFromClosed = s.enterOpening .requestedOpen := if_pos h

/-- R112: a current that may not be broken is waited for. -/
theorem openFromClosed_defers {p : Profile} (h : s.currentBreakable = false) (hp : s.seq.profile = some p)
    (hd : p.deferMax ≠ 0) : s.openFromClosed = s.enterDeferring := by
  simp [State.openFromClosed, h, profileOr_of_profile hp, hd]

/-- R113: with defer_max 0 the timer expires as it starts. -/
theorem openFromClosed_expires {p : Profile} (h : s.currentBreakable = false) (hp : s.seq.profile = some p)
    (hd : p.deferMax = 0) : s.openFromClosed = s.enterDeferring.enterOpening .requestedOpen := by
  rw [← deferExpired_deferring (s := s.enterDeferring) rfl]
  simp [State.openFromClosed, h, profileOr_of_profile hp, hd]

theorem takeTrip_opens
    (h : (s.seq.state = .negClosing ∨ s.seq.state = .precharging ∨ s.seq.state = .posClosing) ∨
      s.seq.state = .closed ∨ s.seq.state = .deferring) :
    takeTrip s = (s.enterOpening .requestedTrip, .now .accepted []) := by
  rcases h with (h | h | h) | h | h <;> simp only [takeTrip, h]

theorem takeTrip_atRest (h : s.seq.state = .opened ∨ s.seq.state = .opening ∨ s.seq.state = .lockout) :
    takeTrip s = (s, .now .done []) := by
  rcases h with h | h | h <;> simp only [takeTrip, h]

end Open

/-- Settles O44: the sequencer state picks the owner's answer, and what the owner leaves is what it would leave without the
transaction, but for the port. -/
theorem openAndTripByState : Obligations.OpenAndTripByState := by
  intro s closing atRest
  refine ⟨fun hh => ?openRequest, fun hh => ⟨fun h => ?_, fun h => ?_⟩⟩
  case openRequest =>
    intro opened
    have answers (a : AnswerCode) (u : State)
        (h : takeOpen (received 0 s) = ({ u with port := (received 0 s).port }, .now a [])) : opened a u :=
      request_answers _ [] _ _ _ _ _ hh h
    have opens (h : takeOpen (received 0 s) = ((received 0 s).enterOpening .requestedOpen, .now .accepted [])) :
        opened .accepted (s.enterOpening .requestedOpen) :=
      answers _ _ (by rw [h, received_enterOpening])
    refine ⟨fun h => h.elim (fun h => opens (takeOpen_closing h)) fun ⟨h, hb⟩ => opens ?_,
      fun p h hb hp => ?defers, fun h => answers _ _ (takeOpen_deferring h), fun h => answers _ _ (takeOpen_atRest h)⟩
    · rw [takeOpen_closed (s := received 0 s) h, openFromClosed_breakable (s := received 0 s) hb]
    case defers =>
      intro deferring
      refine ⟨fun hd => answers _ _ ?_, fun hd => answers _ _ ?_⟩
      · rw [takeOpen_closed (s := received 0 s) h, openFromClosed_defers (s := received 0 s) hb hp hd,
          enterDeferring_eq (s := received 0 s) hp]
        rfl
      · rw [takeOpen_closed (s := received 0 s) h, openFromClosed_expires (s := received 0 s) hb hp hd,
          enterDeferring_eq (s := received 0 s) hp]
        exact congrArg (·, Reply.now .accepted []) (received_enterOpening 0 deferring .requestedOpen)
  · refine request_answers _ [] _ _ _ _ _ hh ?_
    rw [List.length_nil, takeTrip_opens (s := received 0 s) h, received_enterOpening]
  · exact request_answers _ [] _ _ _ _ _ hh (takeTrip_atRest (s := received 0 s) h)

/-! ### The expiries of the timers (R108 to R110, R113, R119) -/

section Expiries

variable {s : State}

theorem auxConfirmExpired_negClosing (h : s.seq.state = .negClosing) :
    s.auxConfirmExpired = s.enterOpening .auxTimeoutNeg := by
  simp only [State.auxConfirmExpired, h]

theorem auxConfirmExpired_posClosing (h : s.seq.state = .posClosing) :
    s.auxConfirmExpired = s.enterOpening .auxTimeoutPos := by
  simp only [State.auxConfirmExpired, h]

theorem prechargeExpired_precharging (h : s.seq.state = .precharging) :
    s.prechargeExpired = s.enterOpening .prechargeTimeout := by
  simp only [State.prechargeExpired, h]

/-- R119: the weld check, POS before NEG before the crash. -/
theorem dropoutExpired_opening (h : s.seq.state = .opening) :
    s.dropoutExpired =
      if s.sense.auxPos.level = some true then s.enterLockout .weldPos
      else if s.sense.auxNeg.level = some true then s.enterLockout .weldNeg
      else if s.seq.context.any (·.crashSeen) then s.enterLockout .crash
      else s.enterOpen := by
  simp only [State.dropoutExpired, h]

end Expiries

/-- Settles O45: the sequencer state picks what the expiry does; the weld check picks the entry that ends OPENING. -/
theorem expiriesOfTheSequencerTimers : Obligations.ExpiriesOfTheSequencerTimers := by
  intro s hv
  have expires {f : State → State} {t : State} (h : f s = t) : event f s = .next t.drive :=
    h ▸ event_of_supply f s hv
  refine ⟨fun h => expires (auxConfirmExpired_negClosing h), fun h => expires (auxConfirmExpired_posClosing h),
    fun h => expires (prechargeExpired_precharging h), fun h => expires (deferExpired_deferring h),
    fun h => ⟨fun hp => expires ?weldPos, fun hp hn => expires ?weldNeg, fun c hp hn hc =>
      ⟨fun hs => expires ?crash, fun hs => expires ?opened⟩⟩⟩
  case weldPos => rw [dropoutExpired_opening h, if_pos hp, enterLockout_eq]
  case weldNeg => rw [dropoutExpired_opening h, if_neg hp, if_pos hn, enterLockout_eq]
  case crash =>
    rw [dropoutExpired_opening h, if_neg hp, if_neg hn, hc, Option.any_some, if_pos hs, enterLockout_eq]
  case opened =>
    rw [dropoutExpired_opening h, if_neg hp, if_neg hn, hc, Option.any_some, if_neg (by rw [hs]; decide), enterOpen_eq]

/-! ### Notices and reference samples (R102, R107, R109, R111, R113, R115) -/

/-- The state with `rest` the notices still to be delivered. -/
def noticesLeft (rest : List Notice) (s : State) : State := { s with table := { s.table with notices := rest } }

section Notices

variable {s : State} {rest : List Notice} {id : Nat} {v : Int}

theorem dropNotice_eq {n : Notice} (h : s.table.notices = n :: rest) : s.dropNotice = noticesLeft rest s := by
  rw [State.dropNotice, h]
  rfl

theorem deliverInhibit_oldest (h : s.table.notices = .inhibit id :: rest) :
    s.deliverInhibit = (noticesLeft rest s).inhibitAtSequencer id := by
  rw [← dropNotice_eq h]
  simp only [State.deliverInhibit, h]

theorem deliverTrip_oldest (h : s.table.notices = .trip id :: rest) :
    s.deliverTrip = (noticesLeft rest s).tripAtSequencer id := by
  rw [← dropNotice_eq h]
  simp only [State.deliverTrip, h]

theorem deliverReference_oldest (h : s.table.notices = .reference id v :: rest) :
    s.deliverReference = (noticesLeft rest s).referenceAtSequencer id v := by
  rw [← dropNotice_eq h]
  simp only [State.deliverReference, h]

theorem inhibitAtSequencer_closing
    (h : s.seq.state = .negClosing ∨ s.seq.state = .precharging ∨ s.seq.state = .posClosing) :
    s.inhibitAtSequencer id = s.enterOpening (.inhibit id) := by
  rcases h with h | h | h <;> simp only [State.inhibitAtSequencer, h]

/-- R111: an inhibit notice does nothing but abort a closure. -/
theorem inhibitAtSequencer_otherwise
    (h : ¬(s.seq.state = .negClosing ∨ s.seq.state = .precharging ∨ s.seq.state = .posClosing)) :
    s.inhibitAtSequencer id = s := by
  cases hs : s.seq.state
  case negClosing => exact absurd (.inl hs) h
  case precharging => exact absurd (.inr (.inl hs)) h
  case posClosing => exact absurd (.inr (.inr hs)) h
  all_goals simp only [State.inhibitAtSequencer, hs]

theorem tripAtSequencer_opens
    (h : (s.seq.state = .negClosing ∨ s.seq.state = .precharging ∨ s.seq.state = .posClosing) ∨
      s.seq.state = .closed ∨ s.seq.state = .deferring) : s.tripAtSequencer id = s.enterOpening (.point id) := by
  rcases h with (h | h | h) | h | h <;> simp only [State.tripAtSequencer, h]

theorem tripAtSequencer_atRest (h : s.seq.state = .opened ∨ s.seq.state = .opening ∨ s.seq.state = .lockout) :
    s.tripAtSequencer id = s := by
  rcases h with h | h | h <;> simp only [State.tripAtSequencer, h]

variable {p : Profile}

/-- R113: in DEFERRING a sample of the current point opens when it may be broken. -/
theorem referenceAtSequencer_deferring (h : s.seq.state = .deferring) (hp : s.seq.profile = some p) :
    s.referenceAtSequencer p.currentPoint v =
      if v.natAbs ≤ p.breakLimit then s.enterOpening .requestedOpen else s := by
  simp [State.referenceAtSequencer, h, profileOr_of_profile hp, breakable]

/-- R109: in PRECHARGING a sample of the bus point is put to the precharge test. -/
theorem referenceAtSequencer_precharging (h : s.seq.state = .precharging) (hp : s.seq.profile = some p) :
    s.referenceAtSequencer p.busPoint v = s.busSample v := by
  simp [State.referenceAtSequencer, h, profileOr_of_profile hp]

theorem busSample_noPack (hp : s.seq.profile = some p) (hq : s.valueOf p.packPoint = none) : s.busSample v = s := by
  simp only [State.busSample, profileOr_of_profile hp, hq]

/-- R107, R109: the precharge test against the pack value, then the least precharge time, then the inhibit set. -/
theorem busSample_pack {q : Int} (hp : s.seq.profile = some p) (hq : s.valueOf p.packPoint = some q) :
    s.busSample v =
      if p.prechargeRatio * q ≤ 100 * v then
        if 10 * p.minPrecharge ≤ (s.sense.time - s.seq.coilInstant).toNat then
          ({ s with seq :=
            { s.seq with lastPrecharge := some (s.sense.time - s.seq.coilInstant) } } : State).unlessInhibited
              State.enterPosClosing
        else s.enterOpening .prechargeFast
      else s := by
  simp only [State.busSample, profileOr_of_profile hp, hq, prechargeMet, decide_eq_true_eq, ← Nat.not_le, ite_not]

end Notices

/-- Settles O46: the oldest notice leaves the queue, and the sequencer state picks what it does on the state without it,
which holds the same profile, values and inhibit set. -/
theorem noticesReachTheSequencer : Obligations.NoticesReachTheSequencer := by
  intro rest s hv taken closing
  have delivers {f : State → State} {t : State} (h : f s = t) : event f s = .next t.drive :=
    h ▸ event_of_supply f s hv
  refine ⟨fun id hn => ?inhibit, fun id hn => ?trip, fun v p hn hp h => ?current, fun v q p hn hp h hq => ?bus,
    fun v p hn hp h hq => ?noPack⟩
  case inhibit =>
    have oldest := deliverInhibit_oldest hn
    exact ⟨fun h => delivers (oldest.trans (inhibitAtSequencer_closing (s := taken) h)),
      fun h => delivers (oldest.trans (inhibitAtSequencer_otherwise (s := taken) h))⟩
  case trip =>
    have oldest := deliverTrip_oldest hn
    exact ⟨fun h => delivers (oldest.trans (tripAtSequencer_opens (s := taken) h)),
      fun h => delivers (oldest.trans (tripAtSequencer_atRest (s := taken) h))⟩
  case current =>
    have sampled := (deliverReference_oldest hn).trans (referenceAtSequencer_deferring (s := taken) h hp)
    exact ⟨fun low => delivers (sampled.trans (if_pos low)),
      fun high => delivers (sampled.trans (if_neg (Nat.not_le.2 high)))⟩
  case bus =>
    intro spent met slow
    have sampled := ((deliverReference_oldest hn).trans (referenceAtSequencer_precharging (s := taken) h hp)).trans
      (busSample_pack (s := taken) hp hq)
    have passed (hm : met) (hs : slow) := (sampled.trans (if_pos hm)).trans (if_pos hs)
    let precharged : State := { taken with seq := { s.seq with lastPrecharge := some spent } }
    exact ⟨fun unmet => delivers (sampled.trans (if_neg unmet)),
      fun hm fast => delivers ((sampled.trans (if_pos hm)).trans (if_neg fast)),
      fun hm hs hi => delivers ((passed hm hs).trans
        ((unlessInhibited_goes (s := precharged) _ hi).trans (enterPosClosing_eq (s := precharged) hp))),
      fun i more hm hs hi => delivers ((passed hm hs).trans (unlessInhibited_opens (s := precharged) _ hi))⟩
  case noPack =>
    exact delivers (((deliverReference_oldest hn).trans (referenceAtSequencer_precharging (s := taken) h hp)).trans
      (busSample_noPack (s := taken) hp hq))

end Sys2Proof.Proofs

/-! Rest in sleep, part 1 (R131, R136): the operations that leave the power state, keep a sequencer at rest, and begin
neither a sleep round nor a sleep enumeration. -/

namespace Sys2Proof.Proofs

open Sys2Proof.Machine Sys2Proof.Laws

/-! ### What rest in sleep hangs on -/

/-- `t` differs from `s` in nothing that breaks rest in sleep: the power state stands, a sequencer at rest where R136
asks for it stays so, and a sleep round or sleep enumeration of `t` is one of `s`. -/
structure RestsAs (s t : State) : Prop where
  power : t.power.state = s.power.state
  rest : s.power.state.low = true → s.seq.state.atRest = true → t.seq.state.atRest = true
  round : t.inSleepRound → s.inSleepRound
  enumeration : t.inSleepEnumeration → s.inSleepEnumeration

theorem RestsAs.refl (s : State) : RestsAs s s := ⟨rfl, fun _ h => h, id, id⟩

theorem RestsAs.trans {s t u : State} (h : RestsAs s t) (k : RestsAs t u) : RestsAs s u where
  power := k.power.trans h.power
  rest := fun low rest => k.rest (by rw [h.power]; exact low) (h.rest low rest)
  round := h.round ∘ k.round
  enumeration := h.enumeration ∘ k.enumeration

theorem RestsAs.keeps {s t : State} (h : RestsAs s t) (hs : s.restsInSleep) : t.restsInSleep := by
  obtain ⟨rest, round, enumeration, apart⟩ := hs
  refine ⟨fun low => ?_, fun r => h.power.trans (round (h.round r)),
    fun e => h.power.trans (enumeration (h.enumeration e)), fun both => apart (both.imp h.round h.enumeration)⟩
  rw [h.power] at low
  exact h.rest low (rest low)

theorem restsAs_of_fields {s t : State} (hp : t.power.state = s.power.state) (hq : t.seq.state = s.seq.state)
    (hr : t.chain.round = s.chain.round) (he : t.chain.enumeration = s.chain.enumeration) : RestsAs s t where
  power := hp
  rest := fun _ h => by rw [hq]; exact h
  round := fun ⟨r, h, sleeps⟩ => ⟨r, hr ▸ h, sleeps⟩
  enumeration := fun ⟨e, h, sleeps⟩ => ⟨e, he ▸ h, sleeps⟩

theorem restsAs_of_blocks {s t : State} (hp : t.power = s.power) (hq : t.seq = s.seq) (hc : t.chain = s.chain) :
    RestsAs s t :=
  restsAs_of_fields (by rw [hp]) (by rw [hq]) (by rw [hc]) (by rw [hc])

theorem restsAs_of_judges {s t : State} (h : OnlyJudges s t) : RestsAs s t :=
  restsAs_of_fields h.powerState (by rw [h.seq]) (by rw [h.chain]) (by rw [h.chain])

theorem restsAs_of_applies {s t : State} (h : OnlyApplies s t) : RestsAs s t :=
  restsAs_of_blocks h.power h.seq h.chain

theorem restsAs_foldl {α : Type} (f : State → α → State) (h : ∀ s x, RestsAs s (f s x)) (xs : List α) (s : State) :
    RestsAs s (xs.foldl f s) := by
  induction xs generalizing s with
  | nil => exact .refl s
  | cons x rest ih => exact (h s x).trans (ih _)

/-- Where no sleep round and no sleep enumeration is in progress the sequencer alone is asked about. -/
theorem restsInSleep_of_noWork {s : State} (hq : s.power.state.low = true → s.seq.state.atRest = true)
    (hr : ¬s.inSleepRound) (he : ¬s.inSleepEnumeration) : s.restsInSleep :=
  ⟨hq, fun r => absurd r hr, fun e => absurd e he, fun both => hr both.1⟩

/-- Outside SLEEP_FRAME neither a sleep round nor a sleep enumeration is in progress. -/
theorem noWork_of_restsInSleep {s : State} (h : s.restsInSleep) (hp : s.power.state ≠ .sleepFrame) :
    ¬s.inSleepRound ∧ ¬s.inSleepEnumeration := by
  obtain ⟨_, round, enumeration, _⟩ := h
  exact ⟨fun r => hp (round r), fun e => hp (enumeration e)⟩

/-! ### Causes, the Store and the Update Engine -/

theorem raise_restsAs (s : State) (c : CauseName) : RestsAs s (s.raise c) := restsAs_of_blocks rfl rfl rfl

theorem raiseIf_restsAs (b : Bool) (c : CauseName) (s : State) : RestsAs s (s.raiseIf b c) := by
  rw [raiseIf_rest]
  exact restsAs_of_blocks rfl rfl rfl

theorem setChanged_restsAs (ids : List Nat) (s : State) : RestsAs s (s.setChanged ids) := by
  unfold State.setChanged
  simp only
  split <;> exact restsAs_of_blocks rfl rfl rfl

theorem requestCounterWrite_restsAs (s : State) (f : Bool) : RestsAs s (s.requestCounterWrite f) := by
  rw [requestCounterWrite_eq]
  exact restsAs_of_blocks rfl rfl rfl

theorem startNextWrite_restsAs (s : State) : RestsAs s s.startNextWrite :=
  restsAs_of_blocks (startNextWrite_power s) (startNextWrite_seq s) (startNextWrite_chain s)

theorem endTampered_restsAs (s : State) : RestsAs s s.endTampered := by
  unfold State.endTampered
  split <;> exact restsAs_of_blocks rfl rfl rfl

theorem tamperAtEngine_restsAs (s : State) : RestsAs s s.tamperAtEngine := by
  rw [tamperAtEngine_eq]
  refine .trans ?_ (endTampered_restsAs (tampered s))
  exact restsAs_of_blocks rfl rfl rfl

theorem startKeyWrite_restsAs (s : State) (r : KeyRecord) (code : Byte) : RestsAs s (s.startKeyWrite r code).1 := by
  unfold State.startKeyWrite
  split <;> exact restsAs_of_blocks rfl rfl rfl

theorem verified_restsAs (s : State) : RestsAs s s.verified := by
  unfold State.verified
  split
  case h_1 =>
    split
    · exact restsAs_of_blocks rfl rfl rfl
    · split
      · exact restsAs_of_blocks rfl rfl rfl
      · exact restsAs_of_blocks (requestBankWrite_power _ _) (requestBankWrite_seq _ _) (requestBankWrite_chain _ _)
  all_goals exact .refl s

/-! ### The Contactor Sequencer -/

theorem atRest_iff (x : SeqState) : x.atRest = true ↔ x = .opened ∨ x = .lockout := by
  cases x <;> simp [SeqState.atRest]

theorem restsAs_of_sequences {s t : State} (h : OnlySequences s t)
    (hr : s.seq.state = .opened ∨ s.seq.state = .lockout → t.seq.state.atRest = true) : RestsAs s t where
  power := by rw [h.power]
  rest := fun _ rest => hr ((atRest_iff _).1 rest)
  round := fun ⟨r, hround, sleeps⟩ => ⟨r, h.chain ▸ hround, sleeps⟩
  enumeration := fun ⟨e, he, sleeps⟩ => ⟨e, h.chain ▸ he, sleeps⟩

/-- An operation that leaves a sequencer at rest alone. -/
theorem restsAs_of_still {s t : State} (h : OnlySequences s t)
    (still : s.seq.state = .opened ∨ s.seq.state = .lockout → t = s) : RestsAs s t :=
  restsAs_of_sequences h fun rest => by rw [still rest]; exact (atRest_iff _).2 rest

theorem auxEdge_restsAs (s : State) (m : Main) (closed : Bool) (stamp : Word32) :
    RestsAs s (s.auxEdge m closed stamp) := by
  refine restsAs_of_sequences (auxEdge_sequences s m closed stamp) fun rest => ?_
  rcases rest with h | h
  · cases closed with
    | true => rw [auxEdge_opened_close m h]; rfl
    | false => rw [auxEdge_opened_open m h, h]; rfl
  · rw [auxEdge_lockout m closed h, h]
    rfl

theorem auxChange_restsAs (s : State) (m : Main) (x : Option (Bool × Word32)) : RestsAs s (s.auxChange m x) := by
  unfold State.auxChange
  split
  · exact auxEdge_restsAs ..
  · exact .refl s

theorem crashAtSequencer_restsAs (s : State) : RestsAs s s.crashAtSequencer := by
  refine restsAs_of_sequences (crashAtSequencer_sequences s) fun rest => ?_
  rcases rest with h | h
  · rw [crashAtSequencer_opened h]
    rfl
  · rw [crashAtSequencer_lockout h, h]
    rfl

theorem inhibitAtSequencer_restsAs (s : State) (id : Nat) : RestsAs s (s.inhibitAtSequencer id) := by
  refine restsAs_of_still ?_ fun rest => by rcases rest with h | h <;> simp only [State.inhibitAtSequencer, h]
  unfold State.inhibitAtSequencer
  split
  case h_1 | h_2 | h_3 => exact enterOpening_sequences ..
  all_goals exact .refl s

theorem tripAtSequencer_restsAs (s : State) (id : Nat) : RestsAs s (s.tripAtSequencer id) := by
  refine restsAs_of_still ?_ fun rest => by rcases rest with h | h <;> simp only [State.tripAtSequencer, h]
  unfold State.tripAtSequencer
  split
  case h_1 | h_2 | h_3 | h_4 | h_5 => exact enterOpening_sequences ..
  all_goals exact .refl s

theorem busSample_sequences (s : State) (v : Int) : OnlySequences s (s.busSample v) := by
  unfold State.busSample
  split
  · exact .refl s
  · split
    · simp only
      split
      · exact enterOpening_sequences ..
      · exact unlessInhibited_sequences s _ _ fun x => setSeq_sequences x _
    · exact .refl s

theorem referenceAtSequencer_restsAs (s : State) (id : Nat) (v : Int) : RestsAs s (s.referenceAtSequencer id v) := by
  refine restsAs_of_still ?_ fun rest => by rcases rest with h | h <;> simp only [State.referenceAtSequencer, h]
  unfold State.referenceAtSequencer
  split
  case h_1 =>
    split
    · exact busSample_sequences s v
    · exact .refl s
  case h_2 =>
    split
    · exact enterOpening_sequences ..
    · exact .refl s
  all_goals exact .refl s

theorem auxConfirmExpired_restsAs (s : State) : RestsAs s s.auxConfirmExpired := by
  refine restsAs_of_still ?_ fun rest => by rcases rest with h | h <;> simp only [State.auxConfirmExpired, h]
  unfold State.auxConfirmExpired
  split
  · exact enterOpening_sequences ..
  · exact enterOpening_sequences ..
  · exact .refl s

theorem prechargeExpired_restsAs (s : State) : RestsAs s s.prechargeExpired := by
  refine restsAs_of_still ?_ fun rest => by rcases rest with h | h <;> simp only [State.prechargeExpired, h]
  unfold State.prechargeExpired
  split
  · exact enterOpening_sequences ..
  · exact .refl s

theorem deferExpired_sequences (s : State) : OnlySequences s s.deferExpired := by
  unfold State.deferExpired
  split
  · exact enterOpening_sequences ..
  · exact .refl s

theorem deferExpired_restsAs (s : State) : RestsAs s s.deferExpired :=
  restsAs_of_still (deferExpired_sequences s) fun rest => by
    rcases rest with h | h <;> simp only [State.deferExpired, h]

theorem enterOpen_sequences (s : State) : OnlySequences s s.enterOpen := by
  rw [enterOpen_eq]
  exact recorded_sequences s _

theorem enterLockout_sequences (s : State) (c : LockoutCause) : OnlySequences s (s.enterLockout c) := by
  rw [enterLockout_eq]
  exact recorded_sequences s _

theorem dropoutExpired_restsAs (s : State) : RestsAs s s.dropoutExpired := by
  refine restsAs_of_still ?_ fun rest => by rcases rest with h | h <;> simp only [State.dropoutExpired, h]
  unfold State.dropoutExpired
  split
  · split
    · exact enterLockout_sequences ..
    · split
      · exact enterLockout_sequences ..
      · split
        · exact enterLockout_sequences ..
        · exact enterOpen_sequences s
  · exact .refl s

theorem dropNotice_restsAs (s : State) : RestsAs s s.dropNotice := restsAs_of_blocks rfl rfl rfl

theorem deliverInhibit_restsAs (s : State) : RestsAs s s.deliverInhibit := by
  unfold State.deliverInhibit
  split
  · exact (dropNotice_restsAs s).trans (inhibitAtSequencer_restsAs ..)
  all_goals exact .refl s

theorem deliverTrip_restsAs (s : State) : RestsAs s s.deliverTrip := by
  unfold State.deliverTrip
  split
  · exact (dropNotice_restsAs s).trans (tripAtSequencer_restsAs ..)
  all_goals exact .refl s

theorem deliverReference_restsAs (s : State) : RestsAs s s.deliverReference := by
  unfold State.deliverReference
  split
  · exact (dropNotice_restsAs s).trans (referenceAtSequencer_restsAs ..)
  all_goals exact .refl s

/-! ### The ring and the converters -/

theorem setEntry_restsAs (s : State) (a : Nat) (e : RosterEntry) : RestsAs s (s.setEntry a e) :=
  restsAs_of_fields rfl rfl rfl rfl

theorem sendRead_restsAs (s : State) (r : Read) : RestsAs s (s.sendRead r) := restsAs_of_fields rfl rfl rfl rfl

theorem convert_restsAs (s : State) : RestsAs s s.convert := restsAs_of_fields rfl rfl rfl rfl

theorem abandonRead_restsAs (s : State) : RestsAs s s.abandonRead := restsAs_of_fields rfl rfl rfl rfl

theorem setCapture_restsAs (s : State) (c : Converter) (x : Option Capture) : RestsAs s (s.setCapture c x) := by
  cases c <;> exact restsAs_of_blocks rfl rfl rfl

theorem captureFor_restsAs (s : State) (ids : List Nat) (c : Converter) : RestsAs s (s.captureFor ids c) := by
  unfold State.captureFor
  split
  · exact .refl s
  · exact setCapture_restsAs ..

theorem captureRound_restsAs (s : State) (ids : List Nat) : RestsAs s (s.captureRound ids) :=
  ((captureFor_restsAs s ids .shuntCurrent).trans (captureFor_restsAs _ ids .packVoltage)).trans
    (captureFor_restsAs _ ids .busVoltage)

theorem captureSpot_restsAs (s : State) (id : Nat) (c : Converter) : RestsAs s (s.captureSpot id c) := by
  unfold State.captureSpot
  split <;> exact setCapture_restsAs ..

theorem takeFaultBit_restsAs (s : State) (a : Nat) (fault : Bool) : RestsAs s (s.takeFaultBit a fault) := by
  unfold State.takeFaultBit
  split
  · exact restsAs_of_fields rfl rfl rfl rfl
  · exact .refl s

theorem countMonitor_restsAs (s : State) (r : Round) (a : Nat) : RestsAs s (s.countMonitor r a) := by
  unfold State.countMonitor
  simp only
  split
  · split <;> exact restsAs_of_fields rfl rfl rfl rfl
  · split
    · exact setEntry_restsAs ..
    · exact .refl s

theorem countRound_restsAs (s : State) (r : Round) : RestsAs s (s.countRound r) :=
  restsAs_foldl _ (fun t a => countMonitor_restsAs t r a) r.monitors s

/-- A discovery takes the place of any enumeration. -/
theorem startDiscovery_restsAs (s : State) (c : DiscoveryCause) : RestsAs s (s.startDiscovery c) where
  power := rfl
  rest := fun _ h => h
  round := id
  enumeration := by
    rintro ⟨e, he, sleeps⟩
    cases he
    cases sleeps

/-- The beginning of a round leaves the power state, the sequencer and the enumeration, whatever the round. -/
theorem beginRound_rest (s : State) (b : Bool) (ids : List Nat) (reach : Nat → Bool) :
    (s.beginRound b ids reach).power.state = s.power.state ∧ (s.beginRound b ids reach).seq = s.seq ∧
      (s.beginRound b ids reach).chain.enumeration = s.chain.enumeration := by
  have j := missAll_judges s (ids.filter (fun id => (s.readEntry? id).any (fun e => !reach e.1)))
  unfold State.beginRound
  simp only
  split
  · exact ⟨j.powerState, j.seq, congrArg (·.enumeration) j.chain⟩
  · exact ⟨j.powerState, j.seq, congrArg (·.enumeration) j.chain⟩

/-- A slot round begins, if it has chain work. -/
theorem beginRound_restsAs (s : State) (ids : List Nat) (reach : Nat → Bool) :
    RestsAs s (s.beginRound false ids reach) := by
  obtain ⟨power, seq, enumeration⟩ := beginRound_rest s false ids reach
  refine ⟨power, fun _ h => by rw [seq]; exact h, fun ⟨r, hr, sleeps⟩ => ⟨r, ?_, sleeps⟩,
    fun ⟨e, he, sleeps⟩ => ⟨e, enumeration ▸ he, sleeps⟩⟩
  have j := missAll_judges s (ids.filter (fun id => (s.readEntry? id).any (fun e => !reach e.1)))
  unfold State.beginRound at hr
  simp only at hr
  split at hr
  · exact j.chain ▸ hr
  · cases hr
    cases sleeps

/-! ### Frames and the tail (R55 to R67) -/

theorem setPhase_restsAs (s : State) (p : ClockPhase) : RestsAs s (s.setPhase p) := restsAs_of_blocks rfl rfl rfl

theorem quietCheck_restsAs (s : State) : RestsAs s s.quietCheck := by
  unfold State.quietCheck
  split
  · rw [requestCounterWrite_eq]
    exact restsAs_of_fields rfl rfl rfl rfl
  · exact .refl s

theorem stopFrames_restsAs (s : State) : RestsAs s s.stopFrames := by
  unfold State.stopFrames
  refine .trans ?_ (quietCheck_restsAs _)
  exact restsAs_of_fields rfl rfl rfl rfl

theorem serve_restsAs (s : State) (x : TailItem) : RestsAs s (Service.state (s.serve x)) := by
  unfold State.serve
  split
  · split
    · unfold State.serveSpot
      split
      · exact captureSpot_restsAs ..
      · split
        · exact (convert_restsAs s).trans (sendRead_restsAs ..)
        · exact restsAs_of_judges (completeSpot_judges ..)
      · exact restsAs_of_judges (completeSpot_judges ..)
    · exact .refl s
  · unfold State.serveMstat
    split
    · exact sendRead_restsAs ..
    · exact raise_restsAs s .chain

theorem serveTail_restsAs (n : Nat) (s : State) : RestsAs s (s.serveTail n) := by
  induction n generalizing s with
  | zero => exact .refl s
  | succ n ih =>
    unfold State.serveTail
    split
    case h_1 => exact .refl s
    case h_2 x _ _ =>
      have served := serve_restsAs s x
      split
      case isFalse => exact .refl s
      case isTrue =>
        split
        case h_1 t ht =>
          rw [ht] at served
          exact served.trans (restsAs_of_blocks rfl rfl rfl)
        case h_2 t ht =>
          rw [ht] at served
          exact (served.trans (t := t) (u := t.popTail) (restsAs_of_blocks rfl rfl rfl)).trans (ih _)

theorem runTail_restsAs (s : State) : RestsAs s s.runTail := serveTail_restsAs _ s

theorem tailCompleted_restsAs (s : State) : RestsAs s s.tailCompleted :=
  RestsAs.trans (t := s.popTail) (restsAs_of_blocks rfl rfl rfl) (runTail_restsAs _)

theorem joinTail_restsAs (s : State) (x : TailItem) : RestsAs s (s.joinTail x) := by
  unfold State.joinTail
  refine .trans ?_ (runTail_restsAs _)
  exact restsAs_of_blocks rfl rfl rfl

theorem cutTail_restsAs (s : State) : RestsAs s s.cutTail := by
  unfold State.cutTail
  split
  · exact restsAs_of_fields rfl rfl rfl rfl
  · exact .refl s

theorem judgeAggregates_restsAs (s : State) (ids : List Nat) : RestsAs s (s.judgeAggregates ids) :=
  restsAs_of_judges (judgeAggregates_judges s ids)

theorem frameClose_restsAs (s : State) : RestsAs s s.frameClose := by
  unfold State.frameClose
  simp only
  refine (judgeAggregates_restsAs s s.dueAggregates).trans ?_
  generalize s.judgeAggregates s.dueAggregates = t
  split
  · exact stopFrames_restsAs t
  · exact (setPhase_restsAs t .tail).trans (runTail_restsAs _)

theorem roundEnded_restsAs (s : State) (k : Nat) : RestsAs s (s.roundEnded k) := by
  unfold State.roundEnded
  split
  · exact frameClose_restsAs s
  · exact setPhase_restsAs ..

theorem startSlot_restsAs (s : State) (k : Nat) : RestsAs s (s.startSlot k) := by
  unfold State.startSlot
  simp only
  refine ((setPhase_restsAs s (.slot k true)).trans (captureRound_restsAs _ (s.slotPoints k))).trans ?_
  generalize (s.setPhase (.slot k true)).captureRound (s.slotPoints k) = t
  generalize (s.slotPoints k).filter (fun id => (s.readEntry? id).isSome) = chainIds
  have begun : RestsAs t (if t.clock.given then t.missAll chainIds else t.beginRound false chainIds t.readable) := by
    split
    · exact restsAs_of_judges (missAll_judges t chainIds)
    · exact beginRound_restsAs t chainIds t.readable
  refine begun.trans ?_
  generalize (if t.clock.given then t.missAll chainIds else t.beginRound false chainIds t.readable) = u
  split
  · exact .refl u
  · exact roundEnded_restsAs u k

/-- The end of a round takes it off the ring. -/
theorem dropRound_restsAs (s : State) (r : Option Read) :
    RestsAs s { s with chain := { s.chain with round := none, read := r } } where
  power := rfl
  rest := fun _ h => h
  round := fun ⟨_, hr, _⟩ => by cases hr
  enumeration := id

theorem overrun_restsAs (s : State) : RestsAs s s.overrun := by
  cases h : s.chain.round with
  | none =>
    rw [overrun_none h]
    exact .refl s
  | some r =>
    rw [overrun_eq h]
    refine .trans ?_ (countRound_restsAs (givenUp r s) r)
    exact ((dropRound_restsAs s none).trans
      (restsAs_of_judges (missAll_judges _ (s.dependents r.queue r.points)))).trans (restsAs_of_blocks rfl rfl rfl)

theorem endFrame_restsAs (s : State) : RestsAs s s.endFrame := by
  unfold State.endFrame
  split
  · exact (overrun_restsAs s).trans (judgeAggregates_restsAs ..)
  · exact cutTail_restsAs s
  · exact .refl s

theorem applyParams_restsAs (s : State) : RestsAs s s.applyParams := by
  rw [applyParams_rest]
  exact restsAs_of_blocks rfl rfl rfl

theorem applyPointItem_restsAs (s : State) (id : Nat) (d : Definition) : RestsAs s (s.applyPointItem id d) := by
  unfold State.applyPointItem
  split <;> exact restsAs_of_blocks rfl rfl rfl

theorem applyGroupAt_restsAs (s : State) (g : GroupItem) (id : Nat) : RestsAs s (s.applyGroupAt g id) := by
  unfold State.applyGroupAt
  split
  · split <;> exact restsAs_of_blocks rfl rfl rfl
  · exact restsAs_of_blocks rfl rfl rfl
  · exact restsAs_of_blocks rfl rfl rfl

theorem applyItem_restsAs (s : State) (x : Item) : RestsAs s (s.applyItem x) := by
  cases x with
  | point id d => exact applyPointItem_restsAs s id d
  | remove id => exact restsAs_of_applies (vacate_applies s id)
  | group g => exact restsAs_foldl _ (fun t id => applyGroupAt_restsAs t g id) tableIds s
  | profile p => exact restsAs_of_fields rfl rfl rfl rfl
  | frame f => exact restsAs_of_blocks rfl rfl rfl

theorem applyCommit_restsAs (s : State) : RestsAs s s.applyCommit := by
  unfold State.applyCommit
  split
  · refine (restsAs_foldl _ applyItem_restsAs s.engine.stage s).trans ?_
    exact restsAs_of_blocks rfl rfl rfl
  all_goals exact .refl s

theorem decideDiscovery_restsAs (s : State) : RestsAs s s.decideDiscovery := by
  unfold State.decideDiscovery
  split
  · exact restsAs_of_blocks rfl rfl rfl
  · split
    · refine .trans ?_ (startDiscovery_restsAs _ .request)
      exact restsAs_of_blocks rfl rfl rfl
    · exact restsAs_of_blocks rfl rfl rfl

theorem openNumber_restsAs (s : State) : RestsAs s s.openNumber := restsAs_of_blocks rfl rfl rfl

theorem openFrame_restsAs (s : State) : RestsAs s s.openFrame := by
  have applied : RestsAs s s.applyParams.applyPoints.applyCommit :=
    ((applyParams_restsAs s).trans (restsAs_of_applies (applyPoints_applies _))).trans (applyCommit_restsAs _)
  have numbered : RestsAs s s.applyParams.applyPoints.applyCommit.refreshAllInhibits.openNumber :=
    (applied.trans (restsAs_of_judges (refreshAllInhibits_judges _))).trans (openNumber_restsAs _)
  exact (numbered.trans (decideDiscovery_restsAs _)).trans (startSlot_restsAs _ 0)

theorem frameStart_restsAs (s : State) : RestsAs s s.frameStart := by
  unfold State.frameStart
  simp only
  refine (endFrame_restsAs s).trans ?_
  split
  · exact stopFrames_restsAs _
  · exact openFrame_restsAs _

theorem frameTimerExpired_restsAs (s : State) : RestsAs s s.frameTimerExpired := by
  unfold State.frameTimerExpired
  split
  · exact frameStart_restsAs s
  · split
    · exact frameStart_restsAs s
    · exact .refl s
  · exact .refl s
  · exact .refl s

theorem slotInstantReached_restsAs (s : State) : RestsAs s s.slotInstantReached := by
  unfold State.slotInstantReached
  split
  · split
    · exact (overrun_restsAs s).trans (startSlot_restsAs ..)
    · exact .refl s
  · exact .refl s
  · exact .refl s

theorem captureDelivered_restsAs (s : State) (c : Converter) (reading : Int) :
    RestsAs s (s.captureDelivered c reading) := by
  unfold State.captureDelivered
  split
  case h_1 => exact .refl s
  case h_2 x _ =>
    simp only
    have delivered : RestsAs s ((s.setCapture c none).deliver x.ids (convertedValue c reading)) :=
      (setCapture_restsAs s c none).trans (restsAs_of_judges (deliver_judges ..))
    split
    · exact (delivered.trans (restsAs_of_judges (completeSpot_judges ..))).trans (tailCompleted_restsAs _)
    · exact delivered

end Sys2Proof.Proofs

/-! Rest in sleep, part 2 (R131, R136): the moves of the Power Manager, and with them every command. -/

namespace Sys2Proof.Proofs

open Sys2Proof.Machine Sys2Proof.Laws

/-! ### The entries to LOADING, ACTIVE and WAKING (R128, R129, R144) -/

theorem enterLoading_restsInSleep (c : StartCause) (s : State) : (s.enterLoading c).restsInSleep :=
  restsInSleep_of_noWork nofun (fun ⟨_, hr, _⟩ => by cases hr) (fun ⟨_, he, _⟩ => by cases he)

theorem losePower_restsInSleep (s : State) : s.losePower.restsInSleep :=
  (restsAs_of_blocks rfl rfl rfl : RestsAs (s.cutWrites.enterLoading .powerOn) s.losePower).keeps
    (enterLoading_restsInSleep .powerOn _)

theorem afterWrite_restsInSleep {s : State} (h : s.restsInSleep) : s.afterWrite.restsInSleep := by
  unfold State.afterWrite
  split
  · exact enterLoading_restsInSleep .reset s
  · exact h

/-- ACTIVE asks nothing of the sequencer, and its frame start begins no sleep work. -/
theorem enterActive_restsInSleep {s : State} (hr : ¬s.inSleepRound) (he : ¬s.inSleepEnumeration) :
    s.enterActive.restsInSleep :=
  (frameStart_restsAs (s.setPower .active)).keeps (restsInSleep_of_noWork nofun hr he)

/-- The discovery of WAKING takes the place of any enumeration. -/
theorem enterWaking_restsInSleep {s : State} (hq : s.seq.state.atRest = true) (hr : ¬s.inSleepRound) :
    s.enterWaking.restsInSleep := by
  refine restsInSleep_of_noWork (fun _ => hq) hr ?_
  rintro ⟨e, he, sleeps⟩
  cases he
  cases sleeps

/-- On the way into sleep, in it and on the way out the sequencer is at rest. -/
theorem atRest_of_restsInSleep {s : State} (h : s.restsInSleep) (low : s.power.state.low = true) :
    s.seq.state.atRest = true := by
  obtain ⟨rest, _⟩ := h
  exact rest low

theorem addWake_restsAs (s : State) (c : WakeName) : RestsAs s (s.addWake c) := restsAs_of_fields rfl rfl rfl rfl

/-- R134, R138, R142: a wake cause joins the wake set, or wakes the part from DEEP_SLEEP. -/
theorem gather_restsInSleep {s : State} (h : s.restsInSleep) (c : WakeName) : (s.gather c).restsInSleep := by
  have joined := (addWake_restsAs s c).keeps h
  unfold State.gather
  split
  case h_2 asleep =>
    obtain ⟨noRound, _⟩ := noWork_of_restsInSleep h (by rw [asleep]; decide)
    have rest : s.seq.state.atRest = true := atRest_of_restsInSleep h (by rw [asleep]; rfl)
    exact enterWaking_restsInSleep (s := s.addWake c) rest noRound
  case h_1 | h_3 | h_4 => exact joined
  all_goals exact h

theorem wakePoint_restsAs (s : State) (id : Nat) : RestsAs s (s.wakePoint id) := by
  unfold State.wakePoint
  split
  · split <;> exact restsAs_of_blocks rfl rfl rfl
  · exact .refl s
  · exact .refl s

theorem wakeTransition_restsAs (s : State) : RestsAs s s.wakeTransition :=
  (restsAs_foldl _ wakePoint_restsAs tableIds s).trans (restsAs_of_judges (refreshAllInhibits_judges _))

theorem awakened_restsInSleep {t : State} (hr : ¬t.inSleepRound) (he : ¬t.inSleepEnumeration) :
    (awakened t).restsInSleep := restsInSleep_of_noWork nofun hr he

/-- R144: WAKING ends in ACTIVE. -/
theorem finishWaking_restsInSleep {s : State} (h : s.restsInSleep) (hp : s.power.state = .waking) :
    s.finishWaking.restsInSleep := by
  obtain ⟨noRound, noEnumeration⟩ := noWork_of_restsInSleep h (by rw [hp]; decide)
  have kept := wakeTransition_restsAs s
  rw [finishWaking_frameStart]
  exact (frameStart_restsAs (awakened s.wakeTransition)).keeps
    (awakened_restsInSleep (noRound ∘ kept.round) (noEnumeration ∘ kept.enumeration))

/-! ### The way into DEEP_SLEEP and its frames (R133 to R141) -/

/-- R133: SETTLING ends in DEEP_SLEEP, which asks of the sequencer what SETTLING asked, or back in ACTIVE. -/
theorem settlingDecision_restsInSleep {s : State} (h : s.restsInSleep) : s.settlingDecision.restsInSleep := by
  unfold State.settlingDecision
  split
  case isFalse => exact h
  case isTrue settling =>
    obtain ⟨noRound, noEnumeration⟩ := noWork_of_restsInSleep h (by rw [settling]; decide)
    have rest : s.seq.state.atRest = true := atRest_of_restsInSleep h (by rw [settling]; rfl)
    split
    · exact restsInSleep_of_noWork (fun _ => rest) noRound noEnumeration
    · exact enterActive_restsInSleep noRound noEnumeration

/-- R137: the next sleep frame begins with its enumeration, and no sleep round is in progress. -/
theorem sleepTimerExpired_restsInSleep {s : State} (h : s.restsInSleep) : s.sleepTimerExpired.restsInSleep := by
  unfold State.sleepTimerExpired
  split
  case isFalse => exact h
  case isTrue expired =>
    obtain ⟨asleep, _⟩ := expired
    obtain ⟨noRound, _⟩ := noWork_of_restsInSleep h (by rw [asleep]; decide)
    have rest : s.seq.state.atRest = true := atRest_of_restsInSleep h (by rw [asleep]; rfl)
    exact ⟨fun _ => rest, fun _ => rfl, fun _ => rfl, fun both => noRound both.1⟩

/-- R141: the end of a sleep round, with neither a round nor an enumeration left, sleeps again or wakes. -/
theorem sleepRoundEnded_restsInSleep {s : State} (hq : s.seq.state.atRest = true) (hr : ¬s.inSleepRound)
    (he : ¬s.inSleepEnumeration) : s.sleepRoundEnded.restsInSleep := by
  have j := judgeAggregates_judges s s.dueSleepAggregates
  have rest : (s.judgeAggregates s.dueSleepAggregates).seq.state.atRest = true := by rw [j.seq]; exact hq
  have kept := restsAs_of_judges j
  have noRound := fun r => hr (kept.round r)
  have noEnumeration := fun e => he (kept.enumeration e)
  unfold State.sleepRoundEnded
  simp only
  generalize s.judgeAggregates s.dueSleepAggregates = t at rest noRound noEnumeration
  split
  · exact restsInSleep_of_noWork (fun _ => rest) noRound noEnumeration
  · exact enterWaking_restsInSleep rest noRound

/-- R140: the sleep round starts once the sleep enumeration is over. -/
theorem startSleepRound_restsInSleep {s : State} (found : Nat) (hq : s.seq.state.atRest = true)
    (hp : s.power.state = .sleepFrame) (he : ¬s.inSleepEnumeration) : (s.startSleepRound found).restsInSleep := by
  unfold State.startSleepRound
  simp only
  have kept := captureRound_restsAs s s.sleepPoints
  have seq := (captureRound_runs s s.sleepPoints).seq
  generalize s.captureRound s.sleepPoints = t at kept seq
  generalize s.sleepPoints.filter (fun id => (s.readEntry? id).isSome) = chainIds
  obtain ⟨power, seq', enumeration⟩ := beginRound_rest t true chainIds (fun a => decide (a < found) && s.readable a)
  generalize t.beginRound true chainIds (fun a => decide (a < found) && s.readable a) = u at power seq' enumeration
  have state : u.power.state = .sleepFrame := power.trans (kept.power.trans hp)
  have rest : u.seq.state.atRest = true := by rw [seq', seq]; exact hq
  have noEnumeration : ¬u.inSleepEnumeration := fun ⟨e, h, sleeps⟩ =>
    he (kept.enumeration ⟨e, enumeration ▸ h, sleeps⟩)
  split
  case isTrue => exact ⟨fun _ => rest, fun _ => state, fun _ => state, fun both => noEnumeration both.2⟩
  case isFalse none =>
    exact sleepRoundEnded_restsInSleep rest (fun ⟨r, h, _⟩ => none (by rw [h]; rfl)) noEnumeration

/-- R139: the end of a sleep enumeration, which belongs to SLEEP_FRAME. -/
theorem sleepEnumerationEnded_restsInSleep {s : State} (h : s.restsInSleep) (he : s.inSleepEnumeration) (found : Nat) :
    (s.sleepEnumerationEnded found).restsInSleep := by
  obtain ⟨rest, _, enumeration, _⟩ := h
  have asleep : s.power.state = .sleepFrame := enumeration he
  have rest : s.seq.state.atRest = true := rest (by rw [asleep]; rfl)
  unfold State.sleepEnumerationEnded
  simp only
  split <;> exact startSleepRound_restsInSleep found rest asleep fun ⟨_, he, _⟩ => by cases he

/-! ### The ends of rounds, reads and enumerations -/

/-- R60, R141: a round ends: a slot round in its frame, a sleep round in SLEEP_FRAME. -/
theorem finishRound_restsInSleep {s : State} (h : s.restsInSleep) {q r : Round} (hq : s.chain.round = some q)
    (hr : r.inSleep = q.inSleep) : (s.finishRound r).restsInSleep := by
  unfold State.finishRound
  simp only
  have dropped := dropRound_restsAs s s.chain.read
  have counted := countRound_restsAs { s with chain := { s.chain with round := none } } r
  have round := (countRound_counts { s with chain := { s.chain with round := none } } r).round
  have seq := (countRound_runs { s with chain := { s.chain with round := none } } r).seq
  have kept : RestsAs s (State.countRound r { s with chain := { s.chain with round := none } }) :=
    dropped.trans counted
  generalize State.countRound r { s with chain := { s.chain with round := none } } = t at kept round seq
  split
  case isTrue sleeps =>
    obtain ⟨rest, inFrame, _, apart⟩ := h
    have inRound : s.inSleepRound := ⟨q, hq, by rw [← hr, sleeps]⟩
    have asleep : s.power.state = .sleepFrame := inFrame inRound
    refine sleepRoundEnded_restsInSleep ?_ (fun ⟨_, left, _⟩ => ?_) fun e => apart ⟨inRound, kept.enumeration e⟩
    · rw [seq]
      exact rest (by rw [asleep]; rfl)
    · rw [round] at left
      cases left
  case isFalse =>
    split
    · exact (roundEnded_restsAs t _).keeps (kept.keeps h)
    · exact kept.keeps h
    · exact kept.keeps h

theorem advance_inSleep (r : Round) (accepted : Bool) : (r.advance accepted).inSleep = r.inSleep := by
  unfold Round.advance
  split
  · rfl
  · split <;> rfl

/-- A round that goes on is a sleep round exactly when it was one. -/
theorem readNext_restsAs {s : State} {q r : Round} (hq : s.chain.round = some q) (hr : r.inSleep = q.inSleep)
    (next : Nat × Block) : RestsAs s (readNext r next s) where
  power := rfl
  rest := fun _ h => h
  round := by
    rintro ⟨x, hx, sleeps⟩
    cases hx
    exact ⟨q, hq, by rw [← hr, sleeps]⟩
  enumeration := id

theorem roundReadEnded_restsInSleep {s : State} (h : s.restsInSleep) (words : Option (List Nat)) :
    (s.roundReadEnded words).restsInSleep := by
  unfold State.roundReadEnded
  split
  case h_1 => exact h
  case h_2 q hq =>
    split
    case h_1 => exact h
    case h_2 e rest hqueue =>
      have j := giveRound_judges s e.2 words (s.dependents [e] q.points)
      have given := (restsAs_of_judges j).keeps h
      have round : (s.giveRound e.2 words (s.dependents [e] q.points)).chain.round = some q := by rw [j.chain, hq]
      have same := advance_inSleep q words.isSome
      simp only
      split
      · exact finishRound_restsInSleep given round same
      · exact (readNext_restsAs round same _).keeps given

theorem readEnded_restsInSleep {s : State} (h : s.restsInSleep) (r : Read) (words : Option (List Nat)) :
    (s.readEnded r words).restsInSleep := by
  have abandoned := (abandonRead_restsAs s).keeps h
  unfold State.readEnded
  simp only
  generalize s.abandonRead = t at abandoned
  split
  · exact roundReadEnded_restsInSleep abandoned words
  · exact ((restsAs_of_judges (completeSpot_judges t _ _)).trans (tailCompleted_restsAs _)).keeps abandoned
  · refine (RestsAs.trans (t := State.raise .chain _) ?_ (tailCompleted_restsAs _)).keeps abandoned
    refine .trans ?_ (raise_restsAs _ .chain)
    split
    · exact setEntry_restsAs ..
    · exact .refl t

theorem attemptFailed_restsInSleep {s : State} (h : s.restsInSleep) (r : Read) (k : FailureKind) :
    (s.attemptFailed r k).restsInSleep := by
  have noted : RestsAs s (s.noteFailure r.address k) := setEntry_restsAs ..
  unfold State.attemptFailed
  simp only
  split
  · exact (noted.trans (sendRead_restsAs ..)).keeps h
  · exact readEnded_restsInSleep ((noted.trans (setEntry_restsAs ..)).keeps h) r none

theorem takeReply_restsInSleep {s : State} (h : s.restsInSleep) (r : Read) (m : List Byte) :
    (s.takeReply r m).restsInSleep := by
  unfold State.takeReply
  simp only
  have taken := (takeFaultBit_restsAs s r.address (checkReply r s.chain.tag m).fault).keeps h
  split
  · exact attemptFailed_restsInSleep taken r _
  · exact attemptFailed_restsInSleep taken r _
  · exact attemptFailed_restsInSleep taken r _
  · exact readEnded_restsInSleep taken r _

theorem readWaitExpired_restsInSleep {s : State} (h : s.restsInSleep) : s.readWaitExpired.restsInSleep := by
  unfold State.readWaitExpired
  split
  · exact attemptFailed_restsInSleep h ..
  · exact h

/-- An enumeration that goes on serves what it served. -/
theorem setEnumeration_restsAs {s : State} {e f : Enumeration} (he : s.chain.enumeration = some e)
    (hf : f.purpose = e.purpose) : RestsAs s { s with chain := { s.chain with enumeration := some f } } where
  power := rfl
  rest := fun _ h => h
  round := id
  enumeration := by
    rintro ⟨x, hx, sleeps⟩
    cases hx
    exact ⟨e, he, by rw [← hf, sleeps]⟩

theorem take_purpose (e : Enumeration) (m : List Byte) : (e.take m).purpose = e.purpose := by
  rw [enumeration_take]
  split <;> rfl

theorem upMessage_restsInSleep {s : State} (h : s.restsInSleep) (m : List Byte) : (s.upMessage m).restsInSleep := by
  unfold State.upMessage
  split
  · exact takeReply_restsInSleep h _ m
  · split
    case h_1 e he =>
      split
      · exact (setEnumeration_restsAs he (take_purpose e m)).keeps h
      · exact h
    case h_2 => exact h

theorem enumDelayExpired_restsAs (s : State) : RestsAs s s.enumDelayExpired := by
  unfold State.enumDelayExpired
  split
  case h_1 e he =>
    split
    · exact .refl s
    · refine (setEnumeration_restsAs (f := { e with listening := true }) he rfl).trans ?_
      exact restsAs_of_fields rfl rfl rfl rfl
  case h_2 => exact .refl s

theorem discovered_restsAs (cause : DiscoveryCause) (f c : Nat) (s : State) : RestsAs s (discovered cause f c s) := by
  refine .trans ?_ (raiseIf_restsAs ..)
  exact ⟨rfl, fun _ h => h, id, fun ⟨_, he, _⟩ => by cases he⟩

/-- R81: the wait of the power state that ran the discovery ends. -/
theorem afterDiscovery_restsInSleep {s : State} (h : s.restsInSleep) : s.afterDiscovery.restsInSleep := by
  unfold State.afterDiscovery
  split
  case h_1 discovering =>
    obtain ⟨noRound, noEnumeration⟩ := noWork_of_restsInSleep h (by rw [discovering]; decide)
    exact enterActive_restsInSleep noRound noEnumeration
  case h_2 waking => exact finishWaking_restsInSleep h waking
  case h_3 => exact (quietCheck_restsAs s).keeps h
  case h_4 => exact (runTail_restsAs s).keeps h
  all_goals exact h

theorem enumSilenceExpired_restsInSleep {s : State} (h : s.restsInSleep) : s.enumSilenceExpired.restsInSleep := by
  unfold State.enumSilenceExpired
  split
  case h_1 e he =>
    split
    · split
      case h_1 cause c _ => exact afterDiscovery_restsInSleep ((discovered_restsAs cause e.found c s).keeps h)
      case h_2 hp => exact sleepEnumerationEnded_restsInSleep h ⟨e, he, hp⟩ e.found
    · exact h
  case h_2 => exact h

/-! ### Line samples and the end of LOADING (R96 to R100, R128) -/

theorem crashEvent_restsInSleep {s : State} (h : s.restsInSleep) : s.crashEvent.restsInSleep :=
  gather_restsInSleep ((crashAtSequencer_restsAs s).keeps h) .crash

theorem tamperEvent_restsInSleep {s : State} (h : s.restsInSleep) : s.tamperEvent.restsInSleep :=
  gather_restsInSleep ((tamperAtEngine_restsAs s).keeps h) .tamper

theorem lineEvents_restsInSleep {s : State} (h : s.restsInSleep) (x : LineChanges) : (s.lineEvents x).restsInSleep := by
  have aux := ((auxChange_restsAs s .neg x.auxNeg).trans (auxChange_restsAs _ .pos x.auxPos)).keeps h
  have crash := onHigh_keeps State.restsInSleep x.crash State.crashEvent _ aux fun _ => crashEvent_restsInSleep
  have wake := onHigh_keeps State.restsInSleep x.wake (fun t => t.gather .line) _ crash fun _ k =>
    gather_restsInSleep k .line
  exact onHigh_keeps State.restsInSleep x.lid State.tamperEvent _ wake fun _ => tamperEvent_restsInSleep

theorem enterDiscovering_restsInSleep {s : State} (hr : ¬s.inSleepRound) : s.enterDiscovering.restsInSleep := by
  refine restsInSleep_of_noWork nofun hr ?_
  rintro ⟨e, he, sleeps⟩
  cases he
  cases sleeps

theorem checkLoadingEnd_restsInSleep {s : State} (h : s.restsInSleep) : s.checkLoadingEnd.restsInSleep := by
  unfold State.checkLoadingEnd
  split
  case isTrue ends =>
    obtain ⟨loading, _⟩ := ends
    obtain ⟨noRound, _⟩ := noWork_of_restsInSleep h (by rw [loading]; decide)
    exact lineEvents_restsInSleep (enterDiscovering_restsInSleep noRound) _
  case isFalse => exact h

theorem stagesMoved_restsAs (l : LineLevels) (s : State) : RestsAs s (stagesMoved l s) := restsAs_of_blocks rfl rfl rfl

theorem sampleLines_restsInSleep {s : State} (h : s.restsInSleep) (l : LineLevels) :
    (s.sampleLines l).restsInSleep := by
  have moved := (stagesMoved_restsAs l s).keeps h
  by_cases loading : s.power.state = .loading
  · rw [sampleLines_loading l loading]
    exact checkLoadingEnd_restsInSleep moved
  · rw [sampleLines_awake l loading]
    exact lineEvents_restsInSleep moved _

theorem passTime_restsInSleep {s : State} (h : s.restsInSleep) : s.passTime.restsInSleep := by
  unfold State.passTime
  split
  · exact sampleLines_restsInSleep h _
  · exact (restsAs_of_blocks rfl rfl rfl : RestsAs s _).keeps h

theorem endLoad_restsAs (s : State) : RestsAs s s.endLoad := by
  have rest := endLoad_rest s
  rw [rest]
  exact restsAs_of_fields rfl rfl rfl rfl

theorem loadEnded_restsInSleep {s : State} (h : s.restsInSleep) : s.loadEnded.restsInSleep := by
  unfold State.loadEnded
  split
  · exact checkLoadingEnd_restsInSleep ((endLoad_restsAs s).keeps h)
  · exact h

/-! ### The ends of the Store's writes (R153, R154, R156) -/

theorem setBank_restsAs (s : State) (b : BankId) (m : Memory) : RestsAs s (s.setBank b m) :=
  restsAs_of_blocks (setBank_power s b m) (setBank_seq s b m) (setBank_chain s b m)

theorem setBankState_restsAs (s : State) (b : BankId) (x : BankState) : RestsAs s (s.setBankState b x) :=
  restsAs_of_blocks (setBankState_power s b x) (setBankState_seq s b x) (setBankState_chain s b x)

theorem counterStored_restsAs (s : State) (w : CounterWrite) : RestsAs s (s.counterStored w) :=
  restsAs_of_blocks (setCounterSlot_power ..) (setCounterSlot_seq ..) (setCounterSlot_chain ..)

theorem counterLost_restsAs (s : State) (w : CounterWrite) : RestsAs s (s.counterLost w) :=
  restsAs_of_blocks (setCounterSlot_power ..) (setCounterSlot_seq ..) (setCounterSlot_chain ..)

theorem keyStored_restsAs (s : State) (w : KeyWrite) : RestsAs s (s.keyStored w) :=
  restsAs_of_blocks (setKeyCopy_power ..) (setKeyCopy_seq ..) (setKeyCopy_chain ..)

theorem keyLost_restsAs (s : State) (w : KeyWrite) : RestsAs s (s.keyLost w) :=
  restsAs_of_blocks (setKeyCopy_power ..) (setKeyCopy_seq ..) (setKeyCopy_chain ..)

theorem answerKeyWrite_restsAs (s : State) (w : KeyWrite) (ok : Bool) : RestsAs s (s.answerKeyWrite w ok) := by
  unfold State.answerKeyWrite
  split <;> exact restsAs_of_blocks rfl rfl rfl

theorem commitWritten_restsAs (s : State) (w : BankWrite) : RestsAs s (s.commitWritten w) :=
  (setBankState_restsAs s w.target .valid).trans (restsAs_of_blocks rfl rfl rfl)

theorem commitFailed_restsAs (s : State) (w : BankWrite) : RestsAs s (s.commitFailed w) :=
  (setBankState_restsAs s w.target .empty).trans (restsAs_of_blocks rfl rfl rfl)

/-- What follows a write that has ended: the next holder of the arbiter, and the start of a held RESET. -/
theorem nextWrite_restsInSleep {s : State} (h : s.restsInSleep) : s.startNextWrite.afterWrite.restsInSleep :=
  afterWrite_restsInSleep ((startNextWrite_restsAs s).keeps h)

theorem counterWriteEnded_restsInSleep {s : State} (h : s.restsInSleep) (b : Bool) :
    (s.counterWriteEnded b).restsInSleep := by
  unfold State.counterWriteEnded
  split
  case h_1 w _ =>
    simp only
    have ended : (if b then s.counterStored w else s.counterLost w).restsInSleep := by
      split
      · exact (counterStored_restsAs s w).keeps h
      · exact (counterLost_restsAs s w).keeps h
    generalize (if b then s.counterStored w else s.counterLost w) = t at ended
    apply nextWrite_restsInSleep
    split
    · exact settlingDecision_restsInSleep ended
    · exact ended
  all_goals exact h

theorem bankUnitEnded_restsInSleep {s : State} (h : s.restsInSleep) (b : Bool) :
    (s.bankUnitEnded b).restsInSleep := by
  unfold State.bankUnitEnded
  split
  case h_1 w _ =>
    simp only
    have worked := (setBank_restsAs s w.target (w.work b (s.bank w.target))).keeps h
    generalize s.setBank w.target (w.work b (s.bank w.target)) = t at worked
    split
    · exact (restsAs_of_blocks (continueBankWrite_power t _) (continueBankWrite_seq t _)
        (continueBankWrite_chain t _)).keeps worked
    · exact nextWrite_restsInSleep ((commitWritten_restsAs t w).keeps worked)
    · exact nextWrite_restsInSleep ((commitFailed_restsAs t w).keeps worked)
  all_goals exact h

theorem keyWriteEnded_restsInSleep {s : State} (h : s.restsInSleep) (b : Bool) : (s.keyWriteEnded b).restsInSleep := by
  unfold State.keyWriteEnded
  split
  case h_1 w _ =>
    simp only
    apply nextWrite_restsInSleep
    refine (answerKeyWrite_restsAs _ w b).keeps ?_
    split
    · exact (keyStored_restsAs s w).keeps h
    · exact (keyLost_restsAs s w).keeps h
  all_goals exact h

/-! ### The host port -/

theorem beginReset_restsInSleep {s : State} (h : s.restsInSleep) : s.beginReset.restsInSleep := by
  unfold State.beginReset
  split
  · exact (restsAs_of_fields rfl rfl rfl rfl : RestsAs s _).keeps h
  · exact enterLoading_restsInSleep .reset s

theorem emptySlotAwake_restsAs (s : State) : RestsAs s s.emptySlotAwake := by
  unfold State.emptySlotAwake
  split <;> exact restsAs_of_blocks rfl rfl rfl

theorem port_restsAs (s : State) (p : Port) : RestsAs s { s with port := p } := restsAs_of_blocks rfl rfl rfl

theorem beginWrite_restsInSleep {s : State} (h : s.restsInSleep) : s.beginWrite.restsInSleep := by
  unfold State.beginWrite
  simp only
  split
  · exact (((port_restsAs s _).trans (emptySlotAwake_restsAs _)).trans (port_restsAs _ _)).keeps h
  · exact beginReset_restsInSleep ((port_restsAs s _).keeps h)
  · exact (port_restsAs s _).keeps h

/-- A write transaction keeps rest in sleep when what it carries does. -/
theorem endWrite_restsInSleep {s : State} (h : s.restsInSleep) (n : Nat) (act : State → State)
    (hact : ∀ t : State, t.restsInSleep → (act t).restsInSleep) : (s.endWrite n act).restsInSleep := by
  have begun : s.ensureBegun.restsInSleep := by
    unfold State.ensureBegun
    split
    · exact beginWrite_restsInSleep h
    · exact h
    · exact h
  unfold State.endWrite
  simp only
  have ended :=
    (port_restsAs s.ensureBegun { s.ensureBegun.port with writeTx := .none, hsdo := idleBytes n }).keeps begun
  split
  · exact ended
  · exact hact _ ended

theorem portAnswer_restsAs (s : State) (code : Byte) (a : AnswerCode) : RestsAs s (s.portAnswer code a) := by
  unfold State.portAnswer
  split <;> exact restsAs_of_blocks rfl rfl rfl

theorem badFrame_restsInSleep {s : State} (h : s.restsInSleep) (frame : List Byte) :
    (s.badFrame frame).restsInSleep := by
  unfold State.badFrame
  split
  · exact h
  · split
    · exact endWrite_restsInSleep h _ _ fun t => (portAnswer_restsAs t _ _).keeps
    · exact h

theorem unknownCode_restsInSleep {s : State} (h : s.restsInSleep) (code : Byte) (body : List Byte) :
    (s.unknownCode code body).restsInSleep := by
  unfold State.unknownCode
  split
  · exact h
  · exact endWrite_restsInSleep h _ _ fun t => (portAnswer_restsAs t _ _).keeps

theorem readOut_restsInSleep {s : State} (h : s.restsInSleep) (n : Nat) : (s.readOut n).restsInSleep := by
  unfold State.readOut
  split
  · exact h
  · simp only
    have shifted := (port_restsAs s { s.port with hsdo := readBytesOut n s.returned }).keeps h
    split
    · exact beginReset_restsInSleep shifted
    · exact shifted

theorem placeReply_restsAs (s : State) (code : Byte) (r : Reply) : RestsAs s (s.placeReply code r) := by
  cases r <;> exact restsAs_of_blocks rfl rfl rfl

theorem takeRequest_restsInSleep {s : State} (h : s.restsInSleep) (code : Byte) (ok : Bool)
    (owner : State → State × Reply) (hown : ∀ t : State, t.restsInSleep → (owner t).1.restsInSleep) :
    (takeRequest code ok owner s).restsInSleep := by
  unfold takeRequest
  split
  · exact h
  · exact (port_restsAs s _).keeps h
  · split
    · exact (placeReply_restsAs _ code _).keeps (hown s h)
    · exact (port_restsAs s _).keeps h

end Sys2Proof.Proofs

/-! Rest in sleep, part 3 (R131, R136): the owners of the requests, every command, and the step. -/

namespace Sys2Proof.Proofs

open Sys2Proof.Machine Sys2Proof.Laws

/-! ### Owners that leave rest in sleep alone -/

theorem withId_restsAs (b : List Byte) (owner : Nat → State → State × Reply)
    (h : ∀ id s, RestsAs s (owner id s).1) (s : State) : RestsAs s (withId b owner s).1 := by
  unfold withId
  split
  · exact h _ s
  · exact .refl s

/-- A test behind which an owner leaves the part alone: mostly a refusal. -/
theorem unless_restsAs {s : State} {p : Prop} [Decidable p] {x y : State × Reply} (hy : RestsAs s y.1)
    (hx : x.1 = s := by rfl) : RestsAs s (if p then x else y).1 := by
  split
  · rw [hx]
    exact .refl s
  · exact hy

theorem setPoint_restsAs (s : State) (id : Nat) (p : Point) : RestsAs s (s.setPoint id p) :=
  restsAs_of_blocks rfl rfl rfl

theorem takeEnlist_restsAs (b : List Byte) (id : Nat) (s : State) : RestsAs s (takeEnlist b id s).1 := by
  refine unless_restsAs (unless_restsAs ?_)
  split
  · exact .refl s
  · exact unless_restsAs (unless_restsAs (setPoint_restsAs ..))

theorem takeLookup_restsAs (id : Nat) (s : State) : RestsAs s (takeLookup id s).1 := unless_restsAs (.refl s)

theorem takeAmend_restsAs (b : List Byte) (id : Nat) (s : State) : RestsAs s (takeAmend b id s).1 := by
  unfold takeAmend
  split
  case h_3 =>
    refine unless_restsAs (unless_restsAs ?_)
    split
    · exact .refl s
    · exact unless_restsAs (unless_restsAs (unless_restsAs (setPoint_restsAs ..)))
  all_goals exact .refl s

theorem takeAmendg_restsAs (b : List Byte) (s : State) : RestsAs s (takeAmendg b s).1 := by
  unfold takeAmendg
  split
  · exact .refl s
  · refine unless_restsAs (unless_restsAs ?_)
    obtain ⟨points, merged⟩ := mergeAll_writes _ (s.groupTargets _ _ _) s
    rw [merged]
    exact restsAs_of_blocks rfl rfl rfl

theorem takeRetire_restsAs (id : Nat) (s : State) : RestsAs s (takeRetire id s).1 := by
  unfold takeRetire
  split
  case h_3 =>
    exact unless_restsAs (unless_restsAs (unless_restsAs (unless_restsAs (unless_restsAs (setPoint_restsAs ..)))))
  all_goals exact .refl s

theorem takeRelease_restsAs (id : Nat) (s : State) : RestsAs s (takeRelease id s).1 := by
  unfold takeRelease
  split
  case h_3 d l p live => exact unless_restsAs (unless_restsAs (restsAs_of_judges (setLive_judges s id d l _ p live)))
  all_goals exact .refl s

theorem takeQinhib_restsAs (b : List Byte) (s : State) : RestsAs s (takeQinhib b s).1 := unless_restsAs (.refl s)

theorem takeSetfrm_restsAs (b : List Byte) (s : State) : RestsAs s (takeSetfrm b s).1 :=
  unless_restsAs (unless_restsAs (unless_restsAs (restsAs_of_blocks rfl rfl rfl)))

theorem takeSpot_restsAs (id : Nat) (s : State) : RestsAs s (takeSpot id s).1 :=
  unless_restsAs (unless_restsAs (unless_restsAs (unless_restsAs (joinTail_restsAs ..))))

theorem takeDiscov_restsAs (s : State) : RestsAs s (takeDiscov s).1 := unless_restsAs (restsAs_of_blocks rfl rfl rfl)

theorem takeMstat_restsAs (b : List Byte) (s : State) : RestsAs s (takeMstat b s).1 := by
  unfold takeMstat
  split
  · exact .refl s
  · exact unless_restsAs (unless_restsAs (unless_restsAs (joinTail_restsAs ..)))

/-- A query clears causes at most. -/
theorem clear_restsAs (s : State) (c : CauseName) : RestsAs s (s.clear c) := restsAs_of_blocks rfl rfl rfl

theorem takeUopen_restsAs (b : List Byte) (s : State) : RestsAs s (takeUopen b s).1 :=
  unless_restsAs (unless_restsAs (unless_restsAs (unless_restsAs (unless_restsAs (unless_restsAs
    (restsAs_of_blocks rfl rfl rfl))))))

theorem takeUstage_restsAs (b : List Byte) (s : State) : RestsAs s (takeUstage b s).1 := by
  refine unless_restsAs ?_
  split
  · exact .refl s
  · exact unless_restsAs (unless_restsAs (unless_restsAs (restsAs_of_blocks rfl rfl rfl)))

theorem takeUcommit_restsAs (b : List Byte) (s : State) : RestsAs s (takeUcommit b s).1 := by
  unfold takeUcommit
  split
  case h_2 => exact unless_restsAs (unless_restsAs (restsAs_of_blocks rfl rfl rfl))
  all_goals exact .refl s

theorem takeUabandon_restsAs (s : State) : RestsAs s (takeUabandon s).1 := by
  unfold takeUabandon
  split <;> exact restsAs_of_blocks rfl rfl rfl

theorem writeKey_restsAs (r : KeyRecord) (code : Byte) (s : State) : RestsAs s (writeKey r code s).1 := by
  unfold writeKey
  simp only
  split <;> exact startKeyWrite_restsAs s r code

theorem takeKeyinst_restsAs (b : List Byte) (s : State) : RestsAs s (takeKeyinst b s).1 :=
  unless_restsAs (unless_restsAs (unless_restsAs (unless_restsAs (writeKey_restsAs ..))))

theorem takeFinlock_restsAs (s : State) : RestsAs s (takeFinlock s).1 :=
  unless_restsAs (unless_restsAs (unless_restsAs (writeKey_restsAs ..)))

theorem takeClrtamp_restsAs (b : List Byte) (s : State) : RestsAs s (takeClrtamp b s).1 := by
  refine unless_restsAs (unless_restsAs (unless_restsAs (unless_restsAs ?_)))
  refine .trans ?_ (requestCounterWrite_restsAs _ false)
  exact restsAs_of_blocks rfl rfl rfl

theorem takeReset_restsAs (s : State) : RestsAs s (takeReset s).1 :=
  unless_restsAs (unless_restsAs (restsAs_of_fields rfl rfl rfl rfl))

/-! ### The owners at the Contactor Sequencer -/

/-- R106: a closure is taken in ACTIVE alone, where nothing is asked of the sequencer. -/
theorem takeClose_restsAs (s : State) : RestsAs s (takeClose s).1 := by
  by_cases ready : s.power.state = .active ∧ s.seq.state = .opened
  case neg =>
    rw [takeClose_state ready]
    exact .refl s
  case pos =>
    rw [takeClose_ready ready]
    exact unless_restsAs (unless_restsAs (unless_restsAs
      ⟨rfl, fun low => (by rw [ready.1] at low; cases low), id, id⟩))

theorem takeOpen_restsAs (s : State) : RestsAs s (takeOpen s).1 := by
  refine restsAs_of_still ?_ fun rest => by rcases rest with h | h <;> rw [takeOpen_atRest (by simp [h])]
  unfold takeOpen
  split
  case h_1 =>
    show OnlySequences s s.openFromClosed
    have deferred : OnlySequences s s.enterDeferring := setSeq_sequences s _
    unfold State.openFromClosed
    split
    · exact enterOpening_sequences ..
    · split
      · exact deferred.trans (deferExpired_sequences _)
      · exact deferred
  case h_2 | h_3 | h_4 => exact enterOpening_sequences ..
  all_goals exact .refl s

theorem takeTrip_restsAs (s : State) : RestsAs s (takeTrip s).1 := by
  refine restsAs_of_still ?_ fun rest => by rcases rest with h | h <;> rw [takeTrip_atRest (by simp [h])]
  unfold takeTrip
  split
  case h_1 | h_2 | h_3 | h_4 | h_5 => exact enterOpening_sequences ..
  all_goals exact .refl s

theorem takeClrlock_restsAs (s : State) : RestsAs s (takeClrlock s).1 := by
  by_cases lockout : s.seq.state = .lockout
  case neg =>
    rw [takeClrlock_state lockout]
    exact .refl s
  case pos =>
    rw [takeClrlock_lockout lockout]
    split
    · exact restsAs_of_sequences (enterOpen_sequences s) fun _ => by rw [enterOpen_eq]; rfl
    · exact .refl s

/-! ### The owners at the Power Manager -/

/-- R131, R147: the first test of SLEEP and RESET: outside ACTIVE, or with the sequencer not at rest. -/
theorem notReady_iff (s : State) :
    (s.power.state ≠ .active ∨ s.seq.state.atRest = false) ↔
      ¬(s.power.state = .active ∧ s.seq.state.atRest = true) := by
  rw [Classical.not_and_iff_not_or_not, Bool.not_eq_true]

theorem abandonStaging_restsAs (s : State) : RestsAs s s.abandonStaging := by
  unfold State.abandonStaging
  split <;> exact restsAs_of_blocks rfl rfl rfl

/-- R131: SETTLING is entered with the sequencer at rest, from ACTIVE, where no sleep work is in progress. -/
theorem enterSettling_restsInSleep {s : State} (h : s.restsInSleep) (hp : s.power.state = .active)
    (hq : s.seq.state.atRest = true) : s.enterSettling.restsInSleep := by
  obtain ⟨noRound, noEnumeration⟩ := noWork_of_restsInSleep h (by rw [hp]; decide)
  unfold State.enterSettling
  simp only
  have settled := (abandonStaging_restsAs
    { s with power := { s.power with state := .settling, wakeSet := .none, quiet := false } }).keeps
      (restsInSleep_of_noWork (fun _ => hq) noRound noEnumeration)
  generalize State.abandonStaging
    { s with power := { s.power with state := .settling, wakeSet := .none, quiet := false } } = t at settled
  split
  · exact (stopFrames_restsAs t).keeps settled
  · exact settled
  · exact (quietCheck_restsAs t).keeps settled

theorem takeSleep_restsInSleep {s : State} (h : s.restsInSleep) : (takeSleep s).1.restsInSleep := by
  unfold takeSleep
  split
  case isTrue => exact h
  case isFalse ready =>
    rw [notReady_iff, Classical.not_not] at ready
    obtain ⟨active, rest⟩ := ready
    split
    · exact h
    · split
      · exact h
      · exact enterSettling_restsInSleep h active rest

theorem takeWake_restsInSleep {s : State} (h : s.restsInSleep) : (takeWake s).1.restsInSleep := by
  unfold takeWake
  split
  case h_2 | h_3 | h_4 => exact gather_restsInSleep h .request
  all_goals exact h

/-! ### Every command and every step -/

/-- Every request goes its way to an owner that keeps rest in sleep. -/
theorem exec_request_restsInSleep {c : Instr} {code : Byte} {body : List Byte} (h : c.request? = some (code, body)) :
    ∃ ok owner, (∀ s, exec c s = request code body ok owner s) ∧
      ∀ s : State, s.restsInSleep → (owner s).1.restsInSleep := by
  cases c <;> cases h
  case enlist => exact ⟨_, _, fun _ => rfl, fun s => (withId_restsAs _ _ (takeEnlist_restsAs body) s).keeps⟩
  case lookup => exact ⟨_, _, fun _ => rfl, fun s => (withId_restsAs _ _ takeLookup_restsAs s).keeps⟩
  case amend => exact ⟨_, _, fun _ => rfl, fun s => (withId_restsAs _ _ (takeAmend_restsAs body) s).keeps⟩
  case amendg => exact ⟨_, _, fun _ => rfl, fun s => (takeAmendg_restsAs body s).keeps⟩
  case retire => exact ⟨_, _, fun _ => rfl, fun s => (withId_restsAs _ _ takeRetire_restsAs s).keeps⟩
  case release => exact ⟨_, _, fun _ => rfl, fun s => (withId_restsAs _ _ takeRelease_restsAs s).keeps⟩
  case changes => exact ⟨_, _, fun _ => rfl, fun s => (setChanged_restsAs _ s).keeps⟩
  case qinhib => exact ⟨_, _, fun _ => rfl, fun s => (takeQinhib_restsAs body s).keeps⟩
  case setfrm => exact ⟨_, _, fun _ => rfl, fun s => (takeSetfrm_restsAs body s).keeps⟩
  case qfrm => exact ⟨_, _, fun _ => rfl, fun s => (clear_restsAs s .frame).keeps⟩
  case spot => exact ⟨_, _, fun _ => rfl, fun s => (withId_restsAs _ _ takeSpot_restsAs s).keeps⟩
  case discov => exact ⟨_, _, fun _ => rfl, fun s => (takeDiscov_restsAs s).keeps⟩
  case mstat => exact ⟨_, _, fun _ => rfl, fun s => (takeMstat_restsAs body s).keeps⟩
  case qchain => exact ⟨_, _, fun _ => rfl, fun s => (clear_restsAs s .chain).keeps⟩
  case close => exact ⟨_, _, fun _ => rfl, fun s => (takeClose_restsAs s).keeps⟩
  case openRequest => exact ⟨_, _, fun _ => rfl, fun s => (takeOpen_restsAs s).keeps⟩
  case trip => exact ⟨_, _, fun _ => rfl, fun s => (takeTrip_restsAs s).keeps⟩
  case clrlock => exact ⟨_, _, fun _ => rfl, fun s => (takeClrlock_restsAs s).keeps⟩
  case qcont => exact ⟨_, _, fun _ => rfl, fun s => (clear_restsAs s .contactor).keeps⟩
  case sleep => exact ⟨_, _, fun _ => rfl, fun _ => takeSleep_restsInSleep⟩
  case wake => exact ⟨_, _, fun _ => rfl, fun _ => takeWake_restsInSleep⟩
  case qpower => exact ⟨_, _, fun _ => rfl, fun s => (clear_restsAs s .power).keeps⟩
  case reset => exact ⟨_, _, fun _ => rfl, fun s => (takeReset_restsAs s).keeps⟩
  case uopen => exact ⟨_, _, fun _ => rfl, fun s => (takeUopen_restsAs body s).keeps⟩
  case ustage => exact ⟨_, _, fun _ => rfl, fun s => (takeUstage_restsAs body s).keeps⟩
  case ucommit => exact ⟨_, _, fun _ => rfl, fun s => (takeUcommit_restsAs body s).keeps⟩
  case uabandon => exact ⟨_, _, fun _ => rfl, fun s => (takeUabandon_restsAs s).keeps⟩
  case qstore =>
    exact ⟨_, _, fun _ => rfl, fun s =>
      (((clear_restsAs s .update).trans (clear_restsAs _ .store)).trans (clear_restsAs _ .tamper)).keeps⟩
  case keyinst => exact ⟨_, _, fun _ => rfl, fun s => (takeKeyinst_restsAs body s).keeps⟩
  case finlock => exact ⟨_, _, fun _ => rfl, fun s => (takeFinlock_restsAs s).keeps⟩
  case clrtamp => exact ⟨_, _, fun _ => rfl, fun s => (takeClrtamp_restsAs body s).keeps⟩
  case status => exact ⟨_, _, fun _ => rfl, fun _ h => h⟩
  case mask =>
    exact ⟨_, _, fun _ => rfl, fun s => (restsAs_of_blocks rfl rfl rfl : RestsAs s (takeMask body s).1).keeps⟩
  case ident => exact ⟨_, _, fun _ => rfl, fun _ h => h⟩

/-- An event keeps rest in sleep when its effect does; the pins are not asked about. -/
theorem event_restsInSleep {f : State → State} (hf : ∀ s : State, s.restsInSleep → (f s).restsInSleep) {s t : State}
    (hs : s.restsInSleep) (h : event f s = .next t) : t.restsInSleep := by
  unfold event at h
  split at h <;> cases h
  · exact (restsAs_of_blocks rfl rfl rfl : RestsAs (f s) (f s).drive).keeps (hf s hs)
  · exact hs

theorem exec_restsInSleep {c : Instr} {s t : State} (hs : s.restsInSleep) (h : exec c s = .next t) :
    t.restsInSleep := by
  cases hc : c.request? with
  | some r =>
    obtain ⟨ok, owner, hexec, hown⟩ := exec_request_restsInSleep (code := r.1) (body := r.2) hc
    rw [hexec] at h
    exact event_restsInSleep (fun u hu => endWrite_restsInSleep hu _ _ fun v hv =>
      takeRequest_restsInSleep hv _ ok owner hown) hs h
  | none =>
    cases c
    case powerOn =>
      cases h
      exact (restsAs_of_blocks rfl rfl rfl : RestsAs s.losePower s.gainPower).keeps (losePower_restsInSleep s)
    case powerLoss =>
      change execPowerLoss s = .next t at h
      unfold execPowerLoss at h
      split at h <;> cases h
      · exact losePower_restsInSleep s
      · exact hs
    case storeLoadEnd => exact event_restsInSleep (fun _ => loadEnded_restsInSleep) hs h
    case writeTransactionBegin => exact event_restsInSleep (fun _ => beginWrite_restsInSleep) hs h
    case readTransaction n => exact event_restsInSleep (fun _ k => readOut_restsInSleep k n) hs h
    case frameError frame => exact event_restsInSleep (fun _ k => badFrame_restsInSleep k frame) hs h
    case unknownRequest code body => exact event_restsInSleep (fun _ k => unknownCode_restsInSleep k code body) hs h
    case frameStart => exact event_restsInSleep (fun u => (frameTimerExpired_restsAs u).keeps) hs h
    case slotStart => exact event_restsInSleep (fun u => (slotInstantReached_restsAs u).keeps) hs h
    case captureDelivery x reading =>
      exact event_restsInSleep (fun u => (captureDelivered_restsAs u x reading).keeps) hs h
    case blockReply m => exact event_restsInSleep (fun _ k => upMessage_restsInSleep k m) hs h
    case readWaitExpiry => exact event_restsInSleep (fun _ => readWaitExpired_restsInSleep) hs h
    case enumDelayExpiry => exact event_restsInSleep (fun u => (enumDelayExpired_restsAs u).keeps) hs h
    case enumReply m => exact event_restsInSleep (fun _ k => upMessage_restsInSleep k m) hs h
    case enumSilenceExpiry => exact event_restsInSleep (fun _ => enumSilenceExpired_restsInSleep) hs h
    case sleepTimerExpiry => exact event_restsInSleep (fun _ => sleepTimerExpired_restsInSleep) hs h
    case lineSample l => exact event_restsInSleep (fun _ k => sampleLines_restsInSleep k l) hs h
    case inhibitNotice => exact event_restsInSleep (fun u => (deliverInhibit_restsAs u).keeps) hs h
    case tripNotice => exact event_restsInSleep (fun u => (deliverTrip_restsAs u).keeps) hs h
    case referenceSample => exact event_restsInSleep (fun u => (deliverReference_restsAs u).keeps) hs h
    case auxConfirmExpiry => exact event_restsInSleep (fun u => (auxConfirmExpired_restsAs u).keeps) hs h
    case prechargeTimeoutExpiry => exact event_restsInSleep (fun u => (prechargeExpired_restsAs u).keeps) hs h
    case deferMaxExpiry => exact event_restsInSleep (fun u => (deferExpired_restsAs u).keeps) hs h
    case dropoutExpiry => exact event_restsInSleep (fun u => (dropoutExpired_restsAs u).keeps) hs h
    case counterWriteEnd b => exact event_restsInSleep (fun _ k => counterWriteEnded_restsInSleep k b) hs h
    case bankWriteUnitEnd b => exact event_restsInSleep (fun _ k => bankUnitEnded_restsInSleep k b) hs h
    case keyWriteEnd b => exact event_restsInSleep (fun _ k => keyWriteEnded_restsInSleep k b) hs h
    case verifyComplete => exact event_restsInSleep (fun u => (verified_restsAs u).keeps) hs h
    all_goals cases hc

/-- Settles O9: every operation but the moves of the Power Manager leaves alone what rest in sleep hangs on, and each
move of the Power Manager keeps it. -/
theorem stepKeepsSequencerAtRestInSleep : Obligations.StepKeepsSequencerAtRestInSleep := by
  intro s t hs h
  unfold step at h
  split at h
  case h_1 empty => exact event_restsInSleep (fun _ => passTime_restsInSleep) hs h
  case h_2 c rest front => exact exec_restsInSleep (s := { s with pending := rest }) hs h

end Sys2Proof.Proofs

/-! The host port and RESET (R130, R143, R147, R148, R189, R195): the beginning of a write transaction, the requests
that no owner is handed, and the beginning of a RESET. -/

namespace Sys2Proof.Proofs

open Sys2Proof.Machine Sys2Proof.Laws

/-! ### The beginning of a write transaction -/

/-- R189: outside sleep the beginning of a write transaction empties the answer slot. -/
theorem emptySlotAwake_awake {s : State} (hd : s.power.state ≠ .deepSleep) (hf : s.power.state ≠ .sleepFrame) :
    s.emptySlotAwake = s.setSlot .empty := by
  unfold State.emptySlotAwake
  split
  case h_1 asleep => exact absurd asleep hd
  case h_2 asleep => exact absurd asleep hf
  all_goals rfl

theorem emptySlotAwake_asleep {s : State} (h : s.power.state = .deepSleep ∨ s.power.state = .sleepFrame) :
    s.emptySlotAwake = s := by
  rcases h with h | h <;> simp only [State.emptySlotAwake, h]

section Begin

variable {s : State}

theorem beginWrite_awake (h : s.power.reset = .none) (hd : s.power.state ≠ .deepSleep)
    (hf : s.power.state ≠ .sleepFrame) :
    s.beginWrite = ({ s with port := { slot := .empty, writeTx := .begun, hsdo := [0xFF] } } : State) := by
  simp only [State.beginWrite, h]
  rw [emptySlotAwake_awake (s := s.shiftOut (idleBytes 1)) hd hf]
  rfl

theorem beginWrite_asleep (h : s.power.reset = .none)
    (asleep : s.power.state = .deepSleep ∨ s.power.state = .sleepFrame) :
    s.beginWrite = ({ s with port := { s.port with writeTx := .begun, hsdo := [0xFF] } } : State) := by
  simp only [State.beginWrite, h]
  rw [emptySlotAwake_asleep (s := s.shiftOut (idleBytes 1)) asleep]
  rfl

theorem beginWrite_held (h : s.power.reset = .held) :
    s.beginWrite = ({ s with port := { slot := .empty, writeTx := .begun, hsdo := [0xFF] } } : State) := by
  simp only [State.beginWrite, h]
  rfl

theorem beginWrite_pending (h : s.power.reset = .pending) :
    s.beginWrite =
      State.beginReset { s with port := { slot := .empty, writeTx := .discarded, hsdo := [0xFF] } } := by
  simp only [State.beginWrite, h]
  rfl

/-- R148: a RESET that begins while the Store is busy is held. -/
theorem beginReset_busy (h : s.storeBusy = true) :
    s.beginReset = { s with power := { s.power with reset := .held } } := if_pos h

theorem beginReset_free (h : s.storeBusy = false) : s.beginReset = s.enterLoading .reset := by
  simp only [State.beginReset, h, Bool.false_eq_true, if_false]

end Begin

/-- Settles O14: the reset phase and sleep pick what the beginning does to the slot. -/
theorem writeTransactionBegins : Obligations.WriteTransactionBegins := by
  intro s hv
  have begins {t : State} (h : s.beginWrite = t) : exec .writeTransactionBegin s = .next t.drive := by
    rw [← h]
    exact event_of_supply State.beginWrite s hv
  exact ⟨fun hr hd hf => begins (beginWrite_awake hr hd hf), fun hr asleep => begins (beginWrite_asleep hr asleep),
    fun hr => begins (beginWrite_held hr),
    fun hr busy => begins ((beginWrite_pending hr).trans (beginReset_busy busy)),
    fun hr idle => ⟨_, begins ((beginWrite_pending hr).trans (beginReset_free idle)), rfl, rfl, rfl⟩⟩

/-! ### Requests that no owner is handed -/

/-- Every request takes the path of `request`. -/
theorem exec_eq_request {c : Instr} {code : Byte} {body : List Byte} (h : c.request? = some (code, body)) (s : State) :
    ∃ ok owner, exec c s = request code body ok owner s := by
  obtain ⟨ok, owner, hexec, _⟩ := exec_request_restsInSleep h
  exact ⟨ok, owner, hexec s⟩

/-- R130: while the part starts or wakes, STATUS and IDENT alone are handed. -/
theorem gate_starting {p : PowerState} {code : Byte} (hp : p = .loading ∨ p = .discovering ∨ p = .waking)
    (hs : code ≠ codeStatus) (hi : code ≠ codeIdent) : gate p code = .starting := by
  rcases hp with rfl | rfl | rfl <;> exact if_neg (not_or.2 ⟨hs, hi⟩)

/-- R130, R143: in sleep WAKE alone is handed. -/
theorem gate_ignored {p : PowerState} {code : Byte} (hp : p = .deepSleep ∨ p = .sleepFrame) (hw : code ≠ codeWake) :
    gate p code = .ignored := by
  rcases hp with rfl | rfl <;> exact if_neg hw

/-- Settles O12: the power state decides for a transaction that arrives, and a RESET discards the others. -/
theorem requestsNotHandedChangeNothing : Obligations.RequestsNotHandedChangeNothing := by
  intro c code body s hc
  obtain ⟨ok, owner, hexec⟩ := exec_eq_request hc s
  rw [hexec]
  exact ⟨fun ha hp hs hi => request_starting code body ok owner s ha (gate_starting hp hs hi),
    fun ha hp hw => request_ignored code body ok owner s ha (gate_ignored hp hw),
    fun hv hw => request_discarded code body ok owner s hv hw,
    fun hv hw hr => request_held code body ok owner s hv hw hr, arrives_of_enterLoading_reset s⟩

/-! ### RESET (R147, R148) -/

section Reset

variable {s : State}

theorem takeReset_state (h : ¬(s.power.state = .active ∧ s.seq.state.atRest = true)) :
    takeReset s = refuse .state s := if_pos ((notReady_iff s).2 h)

theorem takeReset_ready (h : s.power.state = .active ∧ s.seq.state.atRest = true) :
    takeReset s =
      if s.storeBusy then refuse .busy s
      else ({ s with power := { s.power with reset := .pending } }, .now .done []) :=
  if_neg (fun hn => (notReady_iff s).1 hn h)

/-- R147, R189: the read that returns the whole answer of a pending RESET begins it. -/
theorem readOut_begins_reset {n : Nat} {rest : List Byte} (hr : s.power.reset = .pending)
    (hslot : s.port.slot = .holding (codeReset :: rest)) (hn : rest.length + 2 ≤ n) :
    s.readOut n = (s.shiftOut (readBytesOut n s.returned)).beginReset := by
  have whole : s.returnsReset n = true := by
    simp only [State.returnsReset, hr, hslot, List.head?_cons, List.length_cons, beq_self_eq_true, Bool.true_and]
    exact decide_eq_true hn
  simp only [State.readOut, whole, if_true]
  exact if_neg (by omega)

end Reset

/-- Settles O16: the owner's tests do not see the port, and the read of the whole answer begins the RESET. -/
theorem resetBeginsWhenItsAnswerIsRead : Obligations.ResetBeginsWhenItsAnswerIsRead := by
  intro s ready
  refine ⟨fun hh => ?request, fun n rest hv hr _ hslot hn => ?read⟩
  case request =>
    have tested (h : ready) := takeReset_ready (s := received 0 s) h
    refine ⟨fun h => ?_, fun h busy => ?_, fun h idle => ?_⟩
    · exact request_refuses codeReset [] takeReset s .state hh (takeReset_state (s := received 0 s) h)
    · exact request_refuses codeReset [] takeReset s .busy hh ((tested h).trans (if_pos busy))
    · exact request_answers codeReset [] takeReset s { s with power := { s.power with reset := .pending } } .done [] hh
        ((tested h).trans (if_neg (by rw [received_storeBusy, idle]; decide)))
  case read =>
    have begins := readOut_begins_reset hr hslot hn
    have taken : exec (.readTransaction n) s = .next (s.readOut n).drive :=
      event_of_supply (fun t => t.readOut n) s hv
    refine ⟨_, taken, fun idle => ?_, fun busy => ?_⟩
    · rw [begins.trans (beginReset_free (s := s.shiftOut _) idle)]
      exact ⟨rfl, rfl, rfl, rfl, rfl, rfl⟩
    · rw [begins.trans (beginReset_busy (s := s.shiftOut _) busy)]
      exact ⟨rfl, rfl⟩

end Sys2Proof.Proofs

/-! SLEEP and WAKE, STATUS and IDENT (R130 to R134, R138, R142, R143, R152, R155, R179, R193, R194). -/

namespace Sys2Proof.Proofs

open Sys2Proof.Machine Sys2Proof.Laws

/-! ### The quiet point (R132) -/

/-- R132, R133: at the quiet point the counter write that SETTLING waits for is requested. -/
theorem quietCheck_reached {s : State} (hp : s.power.state = .settling) (hc : s.clock.phase = .stopped)
    (hd : s.clock.discoveryRunning = false) (hq : s.power.quiet = false) :
    s.quietCheck =
      { s with power := { s.power with quiet := true }, store := s.store.requested true s.snapshot } := by
  unfold State.quietCheck
  rw [if_pos ⟨hp, hc, hd, hq⟩, requestCounterWrite_eq]
  rfl

/-- R82, R132: a discovery that runs is waited for. -/
theorem quietCheck_waits {s : State} (hd : s.clock.discoveryRunning = true) : s.quietCheck = s := by
  refine if_neg ?_
  rintro ⟨_, _, idle, _⟩
  rw [hd] at idle
  cases idle

/-- The quiet point touches the quiet flag and the Store alone. -/
theorem quietCheck_rest (s : State) :
    s.quietCheck =
      { s with power := { s.power with quiet := s.quietCheck.power.quiet }, store := s.quietCheck.store } := by
  unfold State.quietCheck
  split
  · rw [requestCounterWrite_eq]
  · rfl

/-- R67: frames stop; the quiet point is looked at afterwards. -/
def framesStopped (s : State) : State :=
  { s with
    clock := { s.clock with phase := .stopped, timer := none, tail := [], tailInFlight := false }
    sense := { s.sense with shunt := none, packConv := none, busConv := none }
    chain := { s.chain with read := none } }

theorem stopFrames_eq (s : State) : s.stopFrames = (framesStopped s).quietCheck := rfl

/-! ### The entry to SETTLING (R131, R132, R179) -/

/-- R131, R179: SETTLING with an empty wake set, an open transaction abandoned. -/
def settling (s : State) : State :=
  State.abandonStaging { s with power := { s.power with state := .settling, wakeSet := .none, quiet := false } }

theorem abandonStaging_rest (s : State) :
    s.abandonStaging = { s with engine := s.abandonStaging.engine, attention := s.abandonStaging.attention } := by
  unfold State.abandonStaging
  split <;> rfl

theorem settling_rest (s : State) :
    settling s =
      { s with
        power := { s.power with state := .settling, wakeSet := .none, quiet := false }
        engine := (settling s).engine
        attention := (settling s).attention } :=
  abandonStaging_rest _

/-- R179: an open transaction ends ABANDONED, with UPDATE raised. -/
theorem settling_abandons {s : State} (h : s.engine.state = .staging) :
    (settling s).engine =
        { s.engine with
          state := .idle, stage := [], version := none, commitTag := none
          outcome := some
            { outcome := .abandoned, version := s.engine.version.getD 0, itemIndex := none, reason := none } } ∧
      (settling s).attention.set.update = true := by
  simp only [settling, State.abandonStaging, h]
  exact ⟨rfl, rfl⟩

/-- With no commit in flight the Update Engine is IDLE in SETTLING. -/
theorem settling_idle {s : State} (h : s.engine.state.inFlight = false) : (settling s).engine.state = .idle := by
  cases he : s.engine.state with
  | staging => rw [(settling_abandons he).1]
  | idle => simp only [settling, State.abandonStaging, he]
  | verifying | writing | applying =>
    rw [he] at h
    cases h

theorem settling_phase (s : State) : (settling s).clock.phase = s.clock.phase := by
  rw [settling_rest]

section Entry

variable {s : State}

/-- R132: in SLOT the frame in progress goes on. -/
theorem enterSettling_slot {k : Nat} {b : Bool} (h : s.clock.phase = .slot k b) : s.enterSettling = settling s := by
  have phase := (settling_phase s).trans h
  unfold settling at phase ⊢
  simp only [State.enterSettling, phase]

/-- R132: in TAIL frames stop at once. -/
theorem enterSettling_tail (h : s.clock.phase = .tail) :
    s.enterSettling = (framesStopped (settling s)).quietCheck := by
  have phase := (settling_phase s).trans h
  unfold settling at phase ⊢
  simp only [State.enterSettling, phase]
  exact stopFrames_eq _

theorem enterSettling_stopped (h : s.clock.phase = .stopped) : s.enterSettling = (settling s).quietCheck := by
  have phase := (settling_phase s).trans h
  unfold settling at phase ⊢
  simp only [State.enterSettling, phase]

end Entry

/-- What every entry to SETTLING leaves, whatever becomes of the frames. -/
theorem enterSettling_enters (s : State) :
    s.enterSettling.power.state = .settling ∧ s.enterSettling.power.wakeSet = .none ∧
      s.enterSettling.engine = (settling s).engine ∧ s.enterSettling.attention = (settling s).attention := by
  have power : (settling s).power = { s.power with state := .settling, wakeSet := .none, quiet := false } := by
    rw [settling_rest]
  cases h : s.clock.phase with
  | slot k b =>
    rw [enterSettling_slot h, power]
    exact ⟨rfl, rfl, rfl, rfl⟩
  | tail =>
    rw [enterSettling_tail h, quietCheck_rest]
    exact ⟨congrArg (·.state) power, congrArg (·.wakeSet) power, rfl, rfl⟩
  | stopped =>
    rw [enterSettling_stopped h, quietCheck_rest]
    exact ⟨congrArg (·.state) power, congrArg (·.wakeSet) power, rfl, rfl⟩

/-- R67, R132: in TAIL frames have stopped; the frame number stands. -/
theorem enterSettling_stops {s : State} (h : s.clock.phase = .tail) :
    s.enterSettling.clock = { s.clock with phase := .stopped, timer := none, tail := [], tailInFlight := false } ∧
      s.enterSettling.chain.read = none := by
  rw [enterSettling_tail h, quietCheck_rest, settling_rest]
  exact ⟨rfl, rfl⟩

/-- R132, R133: in TAIL with no discovery running the quiet point is reached, and its counter write requested. -/
theorem enterSettling_quiet {s : State} (h : s.clock.phase = .tail) (hd : s.clock.discoveryRunning = false) :
    s.enterSettling.power.quiet = true ∧
      s.enterSettling.store = s.store.requested true s.enterSettling.snapshot := by
  rw [enterSettling_tail h, quietCheck_reached, settling_rest]
  · exact ⟨rfl, rfl⟩
  · rw [settling_rest]; rfl
  · rfl
  · rw [settling_rest]; exact hd
  · rw [settling_rest]; rfl

/-- Log 41: in TAIL with a discovery running frames stop and the quiet point waits. -/
theorem enterSettling_waits {s : State} (h : s.clock.phase = .tail) (hd : s.clock.discoveryRunning = true) :
    s.enterSettling.power.quiet = false ∧ s.enterSettling.store = s.store := by
  rw [enterSettling_tail h, quietCheck_waits, settling_rest]
  · exact ⟨rfl, rfl⟩
  · rw [settling_rest]; exact hd

/-! ### SLEEP (R131) -/

section Sleep

variable {s : State}

theorem takeSleep_state (h : ¬(s.power.state = .active ∧ s.seq.state.atRest = true)) :
    takeSleep s = refuse .state s := if_pos ((notReady_iff s).2 h)

theorem takeSleep_ready (h : s.power.state = .active ∧ s.seq.state.atRest = true) :
    takeSleep s =
      if s.engine.state.inFlight = false ∧ s.keyWriteInFlight = false then
        if s.sense.wake.level = some true then refuse .wakeHeld s else (s.enterSettling, .now .accepted [])
      else refuse .busy s := by
  unfold takeSleep
  rw [if_neg (fun hn => (notReady_iff s).1 hn h), ← ite_not]
  simp only [not_or, Bool.not_eq_true]

end Sleep

/-- Settles O47: the refusals are those of the owner, whose tests do not see the port; an accepted SLEEP leaves what the
entry to SETTLING leaves, by the phase of the Frame Clock. -/
theorem sleepEntersSettlingOrIsRefused : Obligations.SleepEntersSettlingOrIsRefused := by
  intro s hh refused ready free
  have taken (h : ready) := takeSleep_ready (s := received 0 s) h
  refine ⟨fun h => request_refuses codeSleep [] takeSleep s .state hh (takeSleep_state (s := received 0 s) h),
    fun h hf => request_refuses codeSleep [] takeSleep s .busy hh ((taken h).trans (if_neg hf)),
    fun h hf hw => request_refuses codeSleep [] takeSleep s .wakeHeld hh ?held,
    fun h hf hw => ?enters⟩
  case held => exact ((taken h).trans (if_pos hf)).trans (if_pos hw)
  case enters =>
    have owner : takeSleep (received 0 s) = ((received 0 s).enterSettling, .now .accepted []) :=
      ((taken h).trans (if_pos hf)).trans (if_neg hw)
    have accepted := request_handed codeSleep [] takeSleep s hh
    rw [List.length_nil, owner] at accepted
    obtain ⟨state, wakeSet, engine, attention⟩ := enterSettling_enters (received 0 s)
    refine ⟨_, accepted, state, wakeSet, ?idle, rfl, fun staging => ?abandoned, fun k r slot => ?slot,
      fun tail => ?tail⟩
    case idle => exact (congrArg (·.state) engine).trans (settling_idle (s := received 0 s) hf.1)
    case abandoned =>
      obtain ⟨abandons, raised⟩ := settling_abandons (s := received 0 s) staging
      exact ⟨congrArg (·.stage) (engine.trans abandons), (congrArg (·.set.update) attention).trans raised, _,
        congrArg (·.outcome) (engine.trans abandons), rfl, rfl⟩
    case slot =>
      rw [enterSettling_slot (s := received 0 s) slot, settling_rest]
      exact ⟨rfl, rfl, rfl⟩
    case tail =>
      obtain ⟨clock, read⟩ := enterSettling_stops (s := received 0 s) tail
      exact ⟨congrArg (·.phase) clock, congrArg (·.tail) clock, congrArg (·.timer) clock, congrArg (·.number) clock,
        read, enterSettling_quiet (s := received 0 s) tail, enterSettling_waits (s := received 0 s) tail⟩

/-! ### WAKE (R130, R134, R138, R142, R143) -/

section Wake

variable {s : State}

theorem takeWake_active (h : s.power.state = .active) : takeWake s = (s, .now .done []) := by
  simp only [takeWake, h]

theorem takeWake_settling (h : s.power.state = .settling) : takeWake s = (s.gather .request, .now .accepted []) := by
  simp only [takeWake, h]

theorem takeWake_asleep (h : s.power.state = .deepSleep ∨ s.power.state = .sleepFrame) :
    takeWake s = (s.gather .request, .silent) := by
  rcases h with h | h <;> simp only [takeWake, h]

end Wake

/-- R127, R191: the levels of a supplied part. -/
theorem drive_levels {s : State} (h : s.vsup = true) :
    s.drive.pins.hen = s.power.state.hen ∧
      s.drive.pins.attn = (s.power.state.hen && s.attention.set.meets s.attention.mask) := by
  simp only [drive_pins, State.levels, h, if_true, and_self]

/-- In sleep a WAKE is taken without an answer of its own. -/
theorem exec_wake_asleep {s t : State} (hh : s.hands codeWake)
    (h : s.power.state = .deepSleep ∨ s.power.state = .sleepFrame) (hg : (s.transacted 0).gather .request = t) :
    exec (.wake []) s = .next t.drive := by
  have taken := request_handed codeWake [] takeWake s hh
  rw [List.length_nil, received_of_asleep 0 s h, takeWake_asleep (s := s.transacted 0) h, hg] at taken
  exact taken

/-- Settles O48: the power state picks what becomes of the cause REQUEST. -/
theorem wakeByPowerState : Obligations.WakeByPowerState := by
  intro s hh
  refine ⟨fun h => ?active, fun h => ?settling, fun h => ?sleepFrame, fun h => ?deepSleep⟩
  case active => exact request_answers codeWake [] takeWake s s .done [] hh (takeWake_active (s := received 0 s) h)
  case settling =>
    refine request_answers codeWake [] takeWake s _ .accepted [] hh ((takeWake_settling (s := received 0 s) h).trans ?_)
    rw [gather_gathers (received 0 s) .request (.inl h)]
    rfl
  case sleepFrame => exact exec_wake_asleep hh (.inr h) (gather_gathers _ .request (.inr (.inl h)))
  case deepSleep =>
    have wakes := gather_wakes (s.transacted 0) .request h
    have hen := (drive_levels (s := ((s.transacted 0).addWake .request).enterWaking) hh.1.1).1
    exact ⟨_, exec_wake_asleep hh (.inl h) wakes, rfl, rfl, rfl, hen, rfl, rfl, rfl, rfl⟩

/-! ### STATUS and IDENT (R130, R193, R194) -/

theorem gate_answering {p : PowerState} {code : Byte} (hd : p ≠ .deepSleep) (hf : p ≠ .sleepFrame)
    (hc : code = codeStatus ∨ code = codeIdent) : gate p code = .handed := by
  cases p with
  | active | settling => rfl
  | loading | discovering | waking => exact if_pos hc
  | deepSleep => exact absurd rfl hd
  | sleepFrame => exact absurd rfl hf

/-- R194: the presence byte and the fields behind it. -/
theorem identBody_eq (s : State) :
    identBody s =
      deviceBytes ++ [0xB4, 3] ++ le16 384 ++ [16, 32, 32, 4, 16, 64] ++
        (if s.store.ready = true then
          [1, boolByte s.engine.key.isSome, boolByte s.engine.finalLock] ++ leWord32 s.store.activeVersion
         else List.replicate 7 0) := by
  unfold identBody identTail
  rw [List.append_assoc _ [boolByte s.store.ready]]
  cases s.store.ready <;> rfl

/-- Settles O60: both owners leave the part alone, and their bodies do not show the port. -/
theorem statusAndIdentAnswer : Obligations.StatusAndIdentAnswer := by
  intro s ha hd hf
  have hands {code : Byte} (hc : code = codeStatus ∨ code = codeIdent) : s.hands code := ⟨ha, gate_answering hd hf hc⟩
  constructor
  · exact request_answers codeStatus [] takeStatus s s .done _ (hands (.inl rfl)) rfl
  · rw [← identBody_eq s]
    exact request_answers codeIdent [] takeIdent s s .done _ (hands (.inr rfl)) rfl

end Sys2Proof.Proofs

/-! The supply (R128, R161, logs 8, 11, 12, 44) and the state after reset (R52, R70, R79, R93, R189 to R191, log 6). -/

namespace Sys2Proof.Proofs

open Sys2Proof.Machine Sys2Proof.Laws

/-! ### The writes that a loss cuts (R161) -/

section Cut

variable {s : State}

theorem cutWrites_idle (h : s.store.inFlight = .none) : s.cutWrites = s := by
  simp only [State.cutWrites, h]

theorem cutWrites_bank {w : BankWrite} (h : s.store.inFlight = .bank w) :
    s.cutWrites = if w.unit = .retract then s.cutRetraction w else s := by
  simp only [State.cutWrites, h]

theorem cutWrites_counter {w : CounterWrite} (h : s.store.inFlight = .counter w) :
    s.cutWrites = s.nextChoice.setCounterSlot w.slot s.cutSlot := by
  simp only [State.cutWrites, h]

theorem cutWrites_key {w : KeyWrite} (h : s.store.inFlight = .key w) :
    s.cutWrites = s.nextChoice.setKeyCopy w.copy s.cutCopy := by
  simp only [State.cutWrites, h]

end Cut

theorem counterSlot_setBank (s : State) (b : BankId) (m : Memory) (i : SlotId) :
    (s.setBank b m).counterSlot i = s.counterSlot i := by
  cases b <;> rfl

theorem keyCopy_setBank (s : State) (b : BankId) (m : Memory) (c : CopyId) :
    (s.setBank b m).keyCopy c = s.keyCopy c := by
  cases b <;> rfl

theorem keyCopy_setCounterSlot (s : State) (i : SlotId) (x : SlotBytes) (c : CopyId) :
    (s.setCounterSlot i x).keyCopy c = s.keyCopy c := by
  cases i <;> rfl

theorem counterSlot_setKeyCopy (s : State) (c : CopyId) (x : CopyBytes) (i : SlotId) :
    (s.setKeyCopy c x).counterSlot i = s.counterSlot i := by
  cases c <;> rfl

/-- Log 11: a cut retraction leaves its bank as it was, or retracted; it touches no other area. -/
theorem cutRetraction_leaves (s : State) (w : BankWrite) :
    (∀ b, (s.cutRetraction w).bank b = s.bank b ∨
      (w.target = b ∧ (s.cutRetraction w).bank b = w.work true (s.bank b))) ∧
      (∀ i, (s.cutRetraction w).counterSlot i = s.counterSlot i) ∧
      ∀ c, (s.cutRetraction w).keyCopy c = s.keyCopy c := by
  unfold State.cutRetraction
  simp only
  split
  case isTrue =>
    refine ⟨fun b => ?_, counterSlot_setBank s.nextChoice _ _, keyCopy_setBank s.nextChoice _ _⟩
    rw [bank_setBank]
    split
    case isTrue target =>
      subst target
      exact .inr ⟨rfl, rfl⟩
    case isFalse => exact .inl rfl
  case isFalse => exact ⟨fun _ => .inl rfl, fun _ => rfl, fun _ => rfl⟩

/-- R161: the banks after a loss, whatever write it cuts. -/
theorem bank_cutWrites (s : State) (b : BankId) :
    s.cutWrites.bank b = s.bank b ∨
      ∃ w, s.store.inFlight = .bank w ∧ w.unit = .retract ∧ w.target = b ∧
        s.cutWrites.bank b = w.work true (s.bank b) := by
  cases h : s.store.inFlight with
  | none => exact .inl (by rw [cutWrites_idle h])
  | bank w =>
    rw [cutWrites_bank h]
    split
    case isTrue retracts =>
      exact ((cutRetraction_leaves s w).1 b).imp_right fun ⟨target, left⟩ => ⟨w, rfl, retracts, target, left⟩
    case isFalse => exact .inl rfl
  | counter w =>
    rw [cutWrites_counter h, bank_setCounterSlot]
    exact .inl rfl
  | key w =>
    rw [cutWrites_key h, bank_setKeyCopy]
    exact .inl rfl

/-- R161: the counter slots after a loss: the one being written is invalid. -/
theorem counterSlot_cutWrites (s : State) (i : SlotId) :
    (∃ w, s.store.inFlight = .counter w ∧ w.slot = i ∧ s.cutWrites.counterSlot i = .invalid) ∨
      ((∀ w, s.store.inFlight = .counter w → w.slot ≠ i) ∧ s.cutWrites.counterSlot i = s.counterSlot i) := by
  cases h : s.store.inFlight with
  | none => exact .inr ⟨nofun, by rw [cutWrites_idle h]⟩
  | bank w =>
    refine .inr ⟨nofun, ?_⟩
    rw [cutWrites_bank h]
    split
    · exact (cutRetraction_leaves s w).2.1 i
    · rfl
  | counter w =>
    rw [cutWrites_counter h, counterSlot_setCounterSlot]
    by_cases slot : i = w.slot
    · exact .inl ⟨w, rfl, slot.symm, by rw [if_pos slot, decode_cutSlot]⟩
    · refine .inr ⟨fun v hv => ?_, if_neg slot⟩
      cases hv
      exact Ne.symm slot
  | key w =>
    rw [cutWrites_key h, counterSlot_setKeyCopy]
    exact .inr ⟨nofun, rfl⟩

/-- R161: the key copies after a loss: the one being written is BAD or ERASED. -/
theorem keyCopy_cutWrites (s : State) (c : CopyId) :
    (∃ w, s.store.inFlight = .key w ∧ w.copy = c ∧
        (s.cutWrites.keyCopy c = .bad ∨ s.cutWrites.keyCopy c = .erased)) ∨
      ((∀ w, s.store.inFlight = .key w → w.copy ≠ c) ∧ s.cutWrites.keyCopy c = s.keyCopy c) := by
  cases h : s.store.inFlight with
  | none => exact .inr ⟨nofun, by rw [cutWrites_idle h]⟩
  | bank w =>
    refine .inr ⟨nofun, ?_⟩
    rw [cutWrites_bank h]
    split
    · exact (cutRetraction_leaves s w).2.2 c
    · rfl
  | counter w =>
    rw [cutWrites_counter h, keyCopy_setCounterSlot]
    exact .inr ⟨nofun, rfl⟩
  | key w =>
    rw [cutWrites_key h, keyCopy_setKeyCopy]
    by_cases copy : c = w.copy
    · exact .inl ⟨w, rfl, copy.symm, by rw [if_pos copy]; exact decode_cutCopy s⟩
    · refine .inr ⟨fun v hv => ?_, if_neg copy⟩
      cases hv
      exact Ne.symm copy

/-! ### Loss and arrival of the supply (R128, R161) -/

/-- The areas stand through the entry to LOADING as the cut leaves them. -/
theorem losePower_areas (s : State) :
    (∀ b, s.losePower.bank b = s.cutWrites.bank b) ∧ (∀ i, s.losePower.counterSlot i = s.cutWrites.counterSlot i) ∧
      ∀ c, s.losePower.keyCopy c = s.cutWrites.keyCopy c :=
  ⟨fun b => by cases b <;> rfl, fun i => by cases i <;> rfl, fun c => by cases c <;> rfl⟩

theorem gainPower_areas (s : State) :
    (∀ b, s.gainPower.bank b = s.losePower.bank b) ∧ (∀ i, s.gainPower.counterSlot i = s.losePower.counterSlot i) ∧
      ∀ c, s.gainPower.keyCopy c = s.losePower.keyCopy c :=
  ⟨fun b => by cases b <;> rfl, fun i => by cases i <;> rfl, fun c => by cases c <;> rfl⟩

/-- Log 8: a part without supply reacts to POWER_ON alone. -/
theorem exec_without_supply {s : State} (hv : s.vsup = false) {c : Instr} (hc : c ≠ .powerOn) : exec c s = .next s := by
  by_cases loss : c = .powerLoss
  · subst loss
    show execPowerLoss s = .next s
    simp only [execPowerLoss, hv, Bool.false_eq_true, if_false]
  · obtain ⟨f, hf⟩ := exec_event c ⟨hc, loss⟩ s
    rw [hf, event_without_supply f s hv]

/-- R191: at the arrival of the supply POWER stands under the full mask, and HEN is asserted. -/
theorem gainPower_attn (s : State) : s.gainPower.pins.attn = true := by
  simp [State.gainPower, State.levels, State.losePower, State.enterLoading, Power.started, PowerState.hen, Causes.meets,
    Causes.all]

/-- Settles O18: a loss changes of the areas at most the one that a cut write was in, and the rest of the part stands as
the entry to LOADING writes it. -/
theorem supplyComesAndGoes : Obligations.SupplyComesAndGoes := by
  intro s
  obtain ⟨banks, slots, copies⟩ := losePower_areas s
  refine ⟨fun hv c hc => exec_without_supply hv hc, fun _ hi => ?on, fun hv => ?loss⟩
  case on =>
    obtain ⟨banksOn, slotsOn, copiesOn⟩ := gainPower_areas s
    rw [cutWrites_idle hi] at banks slots copies
    exact ⟨s.gainPower, rfl, rfl, rfl, rfl, rfl, rfl, rfl, rfl, rfl, rfl, gainPower_attn s, rfl, rfl, rfl,
      fun b => (banksOn b).trans (banks b), fun i => (slotsOn i).trans (slots i),
      fun c => (copiesOn c).trans (copies c)⟩
  case loss =>
    refine ⟨s.losePower, if_pos hv, rfl, rfl, fun b => ?_, fun i => ?_, fun c => ?_⟩
    · rw [banks]
      exact bank_cutWrites s b
    · rw [slots]
      exact counterSlot_cutWrites s i
    · rw [copies]
      exact keyCopy_cutWrites s c

/-! ### The state after reset (R128) -/

theorem reset_entry (a : Nat) : (State.reset.entry a).state = .absent := by
  unfold State.entry
  rw [show State.reset.chain.roster = Vector.replicate 16 .blank from rfl, Vector.getElem?_replicate]
  split <;> rfl

theorem reset_point (id : Nat) : State.reset.point id = .vacant := by
  unfold State.point
  rw [show State.reset.table.points = Vector.replicate 384 .vacant from rfl, Vector.getElem?_replicate]
  split <;> rfl

/-- R39: no point is LIVE after reset, so none belongs in the inhibit set. -/
theorem reset_inhibitSetExact : State.reset.inhibitSetExact := by
  refine ⟨fun id => ?_, .nil⟩
  rw [reset_point]
  exact ⟨nofun, nofun⟩

theorem reset_restsInSleep : State.reset.restsInSleep :=
  restsInSleep_of_noWork nofun (fun ⟨_, hr, _⟩ => by cases hr) (fun ⟨_, he, _⟩ => by cases he)

/-- Settles O4: the fields are read off `State.reset`; the roster, the records and the invariants by their lemmas. -/
theorem resetStateStartsUp : Obligations.ResetStateStartsUp :=
  ⟨rfl, rfl, rfl, rfl, rfl, rfl, rfl, reset_entry, rfl, rfl, rfl, rfl, ⟨rfl, rfl⟩, rfl, reset_inhibitSetExact,
    reset_restsInSleep⟩

end Sys2Proof.Proofs

/-! The ends of counter writes and of the units of a bank write (R150, R152 to R155, R173, R198), and the holder of the
write path that follows each. -/

namespace Sys2Proof.Proofs

open Sys2Proof.Machine Sys2Proof.Laws

/-- What a state holds of its banks is the two memories. -/
theorem bank_of_memories {s t : State} (h0 : t.store.bank0 = s.store.bank0) (h1 : t.store.bank1 = s.store.bank1)
    (b : BankId) : t.bank b = s.bank b := by
  cases b
  · exact h0
  · exact h1

theorem bankState_of_states {s t : State} (h0 : t.store.state0 = s.store.state0) (h1 : t.store.state1 = s.store.state1)
    (b : BankId) : t.bankState b = s.bankState b := by
  cases b
  · exact h0
  · exact h1

/-! ### The next holder of the write path (R148, R152) -/

section NextHolder

variable {s u : State}

theorem storeBusy_of_inFlight (h : s.store.inFlight ≠ .none) : s.storeBusy = true := by
  simp [State.storeBusy, h]

/-- R148: a held RESET goes on waiting while the Store is busy. -/
theorem afterWrite_of_inFlight (h : s.store.inFlight ≠ .none) : s.afterWrite = s :=
  if_neg fun ⟨_, idle⟩ => Bool.noConfusion ((storeBusy_of_inFlight h).symm.trans idle)

/-- R154: a pending counter write starts, with the snapshot of this event. -/
theorem nextHolder_counter (h : s.store.counterPending = true) :
    s.startNextWrite.afterWrite =
      { s with store :=
        { s.store with
          counterPending := false, settlingWaits := false
          inFlight := .counter (s.store.nextCounterWrite s.store.settlingWaits s.snapshot) } } := by
  rw [startNextWrite_counter s h]
  exact afterWrite_of_inFlight nofun

/-- R155: the suspended bank write goes on. -/
theorem nextHolder_suspended {w : BankWrite} (h : s.store.counterPending = false) (hs : s.store.suspended = some w) :
    s.startNextWrite.afterWrite = { s with store := { s.store with suspended := none, inFlight := .bank w } } := by
  have starts : s.startNextWrite = { s with store := { s.store with suspended := none, inFlight := .bank w } } := by
    simp only [State.startNextWrite, h, hs, Bool.false_eq_true, if_false, State.setInFlight]
  rw [starts]
  exact afterWrite_of_inFlight nofun

/-- Everything a bank write's start writes (R153): the header and the state of its target, and the write itself. -/
theorem startBankWrite_starts (s : State) (r : BankRequest) :
    (s.startBankWrite r).store.inFlight =
        .bank { target := s.writeTarget, version := r.version, image := r.image, unit := .header } ∧
      (s.startBankWrite r).store.waiting = s.store.waiting ∧
      (s.startBankWrite r).bankState s.writeTarget = .interrupted ∧
      (s.startBankWrite r).bank s.writeTarget.other = s.bank s.writeTarget.other := by
  unfold State.startBankWrite
  cases s.writeTarget <;> exact ⟨rfl, rfl, rfl, rfl⟩

/-- R152: the waiting bank write starts. -/
theorem nextHolder_waiting {r : BankRequest} (h : s.store.counterPending = false) (hs : s.store.suspended = none)
    (hw : s.store.waiting = some r) :
    ∃ t, s.startNextWrite.afterWrite = t ∧
      t.store.inFlight =
        .bank { target := s.writeTarget, version := r.version, image := r.image, unit := .header } ∧
      t.store.waiting = none ∧ t.bankState s.writeTarget = .interrupted ∧
      t.bank s.writeTarget.other = s.bank s.writeTarget.other ∧ t.power = s.power := by
  have starts : s.startNextWrite = ({ s with store := { s.store with waiting := none } }).startBankWrite r := by
    simp only [State.startNextWrite, h, hs, hw, Bool.false_eq_true, if_false]
  rw [starts]
  obtain ⟨inFlight, waiting, state, other⟩ :=
    startBankWrite_starts { s with store := { s.store with waiting := none } } r
  refine ⟨_, afterWrite_of_inFlight (by rw [inFlight]; nofun), inFlight, waiting, state,
    other.trans (bank_of_memories rfl rfl _), startBankWrite_power _ r⟩

/-- With nothing that waits, and no RESET held, nothing is in flight. -/
theorem nextHolder_none (h : s.store.counterPending = false) (hs : s.store.suspended = none)
    (hw : s.store.waiting = none) (hr : s.power.reset ≠ .held) : s.startNextWrite.afterWrite = s.setInFlight .none := by
  rw [startNextWrite_none s h hs hw]
  exact afterWrite_of_not_held _ hr

/-- `t` agrees with `s` in the banks and in the records that the end of a bank write reports to. -/
structure OnlyArbiter (s t : State) : Prop where
  table : t.table = s.table
  engine : t.engine = s.engine
  attention : t.attention = s.attention
  activeBank : t.store.activeBank = s.store.activeBank
  activeVersion : t.store.activeVersion = s.store.activeVersion
  bank : ∀ b, t.bank b = s.bank b
  bankState : ∀ b, t.bankState b = s.bankState b

/-- The end of a write with a counter write pending, or with nothing that waits. -/
theorem nextHolder_arbiter (h : s.store.counterPending = true ∨
      (s.store.suspended = none ∧ s.store.waiting = none ∧ s.power.reset ≠ .held)) :
    ∃ t, s.startNextWrite.afterWrite = t ∧ OnlyArbiter s t ∧
      (s.store.counterPending = false → t.store.inFlight = .none) ∧
      (s.store.counterPending = true →
        t.store.inFlight = .counter (t.store.nextCounterWrite s.store.settlingWaits t.snapshot) ∧
        t.store.counterPending = false ∧ t.store.settlingWaits = false) := by
  cases hp : s.store.counterPending with
  | true =>
    exact ⟨_, nextHolder_counter hp,
      ⟨rfl, rfl, rfl, rfl, rfl, bank_of_memories rfl rfl, bankState_of_states rfl rfl⟩, nofun, fun _ => ⟨rfl, rfl, rfl⟩⟩
  | false =>
    obtain ⟨hs, hw, hr⟩ := h.resolve_left (by rw [hp]; nofun)
    exact ⟨_, nextHolder_none hp hs hw hr,
      ⟨rfl, rfl, rfl, rfl, rfl, bank_of_memories rfl rfl, bankState_of_states rfl rfl⟩, fun _ => rfl, nofun⟩

/-- `u` keeps what the arbiter goes by at the end of a write of `s`: the writes and requests that wait, and the power
state with its RESET. -/
structure KeepsRequests (s u : State) : Prop where
  counterPending : u.store.counterPending = s.store.counterPending
  settlingWaits : u.store.settlingWaits = s.store.settlingWaits
  suspended : u.store.suspended = s.store.suspended
  waiting : u.store.waiting = s.store.waiting
  power : u.power = s.power

theorem KeepsRequests.trans {v : State} (h : KeepsRequests s u) (g : KeepsRequests u v) : KeepsRequests s v :=
  ⟨g.counterPending.trans h.counterPending, g.settlingWaits.trans h.settlingWaits, g.suspended.trans h.suspended,
    g.waiting.trans h.waiting, g.power.trans h.power⟩

/-- Nothing waits for the write path, and no RESET for its end. -/
def NothingWaits (s : State) : Prop :=
  s.store.counterPending = false ∧ s.store.suspended = none ∧ s.store.waiting = none ∧ s.power.reset ≠ .held

theorem KeepsRequests.nothingWaits (h : KeepsRequests s u) (hn : NothingWaits s) : NothingWaits u := by
  obtain ⟨pending, suspended, waiting, reset⟩ := hn
  exact ⟨h.counterPending.trans pending, h.suspended.trans suspended, h.waiting.trans waiting, h.power ▸ reset⟩

theorem NothingWaits.nextHolder (h : NothingWaits s) : s.startNextWrite.afterWrite = s.setInFlight .none := by
  obtain ⟨pending, suspended, waiting, reset⟩ := h
  exact nextHolder_none pending suspended waiting reset

end NextHolder

/-! ### Counter writes (R150, R154, R198) -/

/-- R198: the last bytes of a written area are the CRC-16 of those before it. -/
theorem withCrc16_drop (b : List Byte) {n : Nat} (h : b.length = n) :
    (withCrc16 b).drop n = leWord16 (crc16 ((withCrc16 b).take n)) := by
  rw [withCrc16, List.drop_left' h, List.take_left' h]

section CounterEnds

variable {s : State} {w : CounterWrite}

/-- The report of a counter write: stored, or lost. -/
def counterReported (w : CounterWrite) (ok : Bool) (s : State) : State :=
  if ok = true then s.counterStored w else s.counterLost w

/-- `u` has written no area of `s` but the counter slot `i`, and leaves to the arbiter what waits. -/
structure WritesSlotOnly (i : SlotId) (s u : State) : Prop extends KeepsRequests s u where
  bank : ∀ b, u.bank b = s.bank b
  bankState : ∀ b, u.bankState b = s.bankState b
  activeBank : u.store.activeBank = s.store.activeBank
  otherSlot : u.counterSlot i.other = s.counterSlot i.other

theorem WritesSlotOnly.writeTarget {i : SlotId} {s u : State} (h : WritesSlotOnly i s u) :
    u.writeTarget = s.writeTarget := by
  simp only [State.writeTarget, h.activeBank]

theorem counterReported_writesSlotOnly (w : CounterWrite) (ok : Bool) (s : State) :
    WritesSlotOnly w.slot s (counterReported w ok s) := by
  unfold counterReported State.counterStored State.counterLost
  generalize CounterSlot.encode w.sequence w.snapshot = stored
  generalize erasedArea 29 = erased
  generalize w.slot = slot
  cases ok <;> cases slot <;>
    exact ⟨⟨rfl, rfl, rfl, rfl, rfl⟩, bank_of_memories rfl rfl, bankState_of_states rfl rfl, rfl, rfl⟩

/-- R154: the slot and the sequence in force after a report. -/
theorem counterReported_slotInForce (w : CounterWrite) (ok : Bool) (s : State) :
    (counterReported w ok s).store.slotInForce = if ok = true then some w.slot else s.store.slotInForce := by
  obtain ⟨slot, sequence, snapshot, forSettling⟩ := w
  cases ok <;> cases slot <;> rfl

theorem slotBytes_counterStored (s : State) (w : CounterWrite) :
    (s.counterStored w).store.slotBytes w.slot = withCrc16 (slotFields w.sequence w.snapshot) := by
  have bytes : (s.counterStored w).store.slotBytes w.slot = (CounterSlot.encode w.sequence w.snapshot).toList := by
    obtain ⟨slot, sequence, snapshot, forSettling⟩ := w
    cases slot <;> rfl
  exact bytes.trans (toList_areaOf rfl)

theorem counterSlot_counterStored (s : State) (w : CounterWrite) :
    (s.counterStored w).counterSlot w.slot = .valid w.sequence w.snapshot := by
  show (s.setCounterSlot w.slot _).counterSlot w.slot = _
  rw [counterSlot_setCounterSlot, if_pos rfl, decode_encode_slot]

theorem counterSlot_counterLost (s : State) (w : CounterWrite) : (s.counterLost w).counterSlot w.slot = .invalid := by
  show (s.setCounterSlot w.slot _).counterSlot w.slot = _
  rw [counterSlot_setCounterSlot, if_pos rfl, decode_erased_slot]

theorem failures_counterLost (s : State) (w : CounterWrite) :
    (s.counterLost w).store.failures = if s.store.failures = 65535 then 65535 else s.store.failures + 1 := by
  rw [← satIncr_word16]
  obtain ⟨slot, sequence, snapshot, forSettling⟩ := w
  cases slot <;> rfl

theorem sequence_counterLost (s : State) (w : CounterWrite) :
    (s.counterLost w).store.sequence = s.store.sequence := by
  obtain ⟨slot, sequence, snapshot, forSettling⟩ := w
  cases slot <;> rfl

theorem attention_counterStored (s : State) (w : CounterWrite) : (s.counterStored w).attention = s.attention :=
  setCounterSlot_attention s w.slot _

/-- A counter write that SETTLING does not wait for ends: its report, then the next holder. -/
theorem exec_counterWriteEnd {t : State} {ok : Bool} (hv : s.vsup = true) (hi : s.store.inFlight = .counter w)
    (hf : w.forSettling = false) (ht : (counterReported w ok s).startNextWrite.afterWrite = t) :
    exec (.counterWriteEnd ok) s = .next t.drive := by
  have ends : s.counterWriteEnded ok = t := by
    rw [← ht]
    simp only [State.counterWriteEnded, hi, hf, Bool.false_eq_true, if_false, counterReported]
  rw [← ends]
  exact event_of_supply _ s hv

end CounterEnds

/-- Settles O51: the report writes the slot and its records, and leaves to the arbiter what waits for the write
path; the next holder follows from that. -/
theorem counterWriteEnds : Obligations.CounterWriteEnds := by
  intro w s hv hi hf
  have ends {t : State} (ok : Bool) := exec_counterWriteEnd (t := t) (ok := ok) hv hi hf
  have kept (ok : Bool) := counterReported_writesSlotOnly w ok s
  refine ⟨fun hp hs hw hr => ?last, fun ok hp => ?counter, fun ok b hp hs => ?suspended, fun ok r hp hs hw => ?waiting⟩
  case last =>
    have last (ok : Bool) := ((kept ok).toKeepsRequests.nothingWaits ⟨hp, hs, hw, hr⟩).nextHolder
    constructor
    · have bytes := slotBytes_counterStored s w
      refine ⟨_, ends true (last true), counterSlot_counterStored s w, (congrArg List.length bytes).trans rfl,
        ?crc, (kept true).otherSlot, rfl, rfl, rfl, attention_counterStored s w, (kept true).power⟩
      case crc =>
        show ((s.counterStored w).store.slotBytes w.slot).drop 27 =
          leWord16 (crc16 (((s.counterStored w).store.slotBytes w.slot).take 27))
        rw [bytes]
        exact withCrc16_drop _ (slotFields_length _ _)
    · exact ⟨_, ends false (last false), counterSlot_counterLost s w, (kept false).otherSlot,
        counterReported_slotInForce w false s, sequence_counterLost s w, rfl, rfl, failures_counterLost s w,
        (kept false).power⟩
  case counter =>
    refine ⟨_, ends ok (nextHolder_counter ((kept ok).counterPending.trans hp)), ?_,
      counterReported_slotInForce w ok s, rfl, rfl, (kept ok).suspended, (kept ok).waiting, (kept ok).power⟩
    rw [← (kept ok).settlingWaits]
    rfl
  case suspended =>
    exact ⟨_, ends ok (nextHolder_suspended ((kept ok).counterPending.trans hp) ((kept ok).suspended.trans hs)), rfl,
      rfl, (kept ok).waiting, (kept ok).bank, (kept ok).bankState, (kept ok).power⟩
  case waiting =>
    obtain ⟨t, begun, inFlight, none, state, other, power⟩ := nextHolder_waiting
      ((kept ok).counterPending.trans hp) ((kept ok).suspended.trans hs) ((kept ok).waiting.trans hw)
    rw [(kept ok).writeTarget] at inFlight state other
    exact ⟨_, ends ok begun, inFlight, none, state, other.trans ((kept ok).bank _), power.trans (kept ok).power⟩

/-! ### The units of a bank write (R153, R155, R173) -/

section Units

variable {s : State} {w : BankWrite} {ok : Bool}

theorem work_header (m : Memory) (h : w.unit = .header) : w.work ok m = m := by
  simp only [BankWrite.work, h]

theorem work_page {k : Nat} (m : Memory) (h : w.unit = .page k) :
    w.work ok m = m.writeBytes (pageAddress k) (pageBytes w.image k) := by
  simp only [BankWrite.work, h]

theorem work_check (m : Memory) (h : w.unit = .check) : w.work ok m = m := by
  simp only [BankWrite.work, h]

theorem work_close (m : Memory) (h : w.unit = .close) :
    w.work ok m = if ok = true then m.writeBytes completeAddress completeMark else m := by
  simp only [BankWrite.work, h]

/-- Within a list its default does not show. -/
theorem getD_within {b : List Byte} {i : Nat} (h : i < b.length) (x y : Byte) : b.getD i x = b.getD i y := by
  rw [List.getD_eq_getElem?_getD, List.getD_eq_getElem?_getD, List.getElem?_eq_getElem h, Option.getD_some,
    Option.getD_some]

/-- R149: the complete mark and nothing else. -/
theorem read_work_close (m : Memory) (a : Nat) (h : w.unit = .close) :
    (w.work true m).read a =
      if 12 ≤ a ∧ a < 16 then ([0x3C, 0xA5, 0x69, 0xF0] : List Byte).getD (a - 12) 0 else m.read a := by
  rw [work_close m h, if_pos rfl, read_writeBytes]
  show (if 12 ≤ a ∧ a < 16 then completeMark.getD (a - 12) erasedByte else m.read a) = _
  split
  case isTrue inMark =>
    refine getD_within ?_ erasedByte 0
    show a - 12 < 4
    omega
  case isFalse => rfl

theorem work_retract (m : Memory) (h : w.unit = .retract) :
    w.work ok m =
      (m.writeBytes 0 (List.replicate 4 erasedByte)).writeBytes completeAddress (List.replicate 4 erasedByte) := by
  simp only [BankWrite.work, h]

theorem read_writeBytes_erased (m : Memory) (x n a : Nat) :
    (m.writeBytes x (List.replicate n erasedByte)).read a = if x ≤ a ∧ a < x + n then erasedByte else m.read a := by
  rw [read_writeBytes, List.length_replicate]
  split
  case isTrue inside =>
    rw [List.getD_eq_getElem?_getD, List.getElem?_replicate, if_pos (by omega), Option.getD_some]
  case isFalse => rfl

/-- Log 12: erased bytes in the place of each mark, and the rest of the header as OPEN wrote it. -/
theorem read_work_retract (m : Memory) (a : Nat) (h : w.unit = .retract) :
    (w.work ok m).read a = if a < 4 ∨ (12 ≤ a ∧ a < 16) then 0xFF else m.read a := by
  rw [work_retract m h, read_writeBytes_erased, read_writeBytes_erased]
  show (if 12 ≤ a ∧ a < 16 then erasedByte else if 0 ≤ a ∧ a < 4 then erasedByte else m.read a) = _
  by_cases complete : 12 ≤ a ∧ a < 16
  · rw [if_pos complete, if_pos (.inr complete)]
    rfl
  · have begins : (a < 4 ∨ (12 ≤ a ∧ a < 16)) ↔ (0 ≤ a ∧ a < 4) := by omega
    rw [if_neg complete]
    simp only [begins]
    rfl

/-- R153, R155: with no counter write pending the next unit is in flight. -/
theorem continueBankWrite_goesOn (h : s.store.counterPending = false) :
    s.continueBankWrite w = s.setInFlight (.bank w) := by
  simp only [State.continueBankWrite, h, Bool.false_eq_true, if_false]

/-- R153, R155: with one pending the bank write is suspended and the counter write starts. -/
theorem continueBankWrite_suspends (h : s.store.counterPending = true) :
    s.continueBankWrite w =
      { s with store :=
        { s.store with
          suspended := some w, counterPending := false, settlingWaits := false
          inFlight := .counter (s.store.nextCounterWrite s.store.settlingWaits s.snapshot) } } := by
  rw [State.continueBankWrite, if_pos h]
  exact startNextWrite_counter { s with store := { s.store with suspended := some w } } h

/-- The banks stand while a bank write goes on or is suspended. -/
theorem continueBankWrite_onlyArbiter (s : State) (w : BankWrite) : OnlyArbiter s (s.continueBankWrite w) := by
  cases h : s.store.counterPending with
  | false =>
    rw [continueBankWrite_goesOn h]
    exact ⟨rfl, rfl, rfl, rfl, rfl, bank_of_memories rfl rfl, bankState_of_states rfl rfl⟩
  | true =>
    rw [continueBankWrite_suspends h]
    exact ⟨rfl, rfl, rfl, rfl, rfl, bank_of_memories rfl rfl, bankState_of_states rfl rfl⟩

/-- The work of a unit on its target bank, at the unit's end. -/
def unitWorked (w : BankWrite) (ok : Bool) (s : State) : State := s.setBank w.target (w.work ok (s.bank w.target))

theorem unitWorked_target (w : BankWrite) (ok : Bool) (s : State) :
    (unitWorked w ok s).bank w.target = w.work ok (s.bank w.target) :=
  (bank_setBank ..).trans (if_pos rfl)

theorem unitWorked_other (w : BankWrite) (ok : Bool) (s : State) :
    (unitWorked w ok s).bank w.target.other = s.bank w.target.other :=
  (bank_setBank ..).trans (if_neg (by cases w.target <;> nofun))

/-- A unit without bytes of its own leaves both banks. -/
theorem unitWorked_bank (h : w.work ok (s.bank w.target) = s.bank w.target) (b : BankId) :
    (unitWorked w ok s).bank b = s.bank b := by
  unfold unitWorked
  rw [h, bank_setBank]
  split
  case isTrue target => rw [target]
  case isFalse => rfl

theorem unitWorked_keeps (w : BankWrite) (ok : Bool) (s : State) : KeepsRequests s (unitWorked w ok s) := by
  unfold unitWorked
  generalize w.work ok (s.bank w.target) = m
  cases w.target <;> exact ⟨rfl, rfl, rfl, rfl, rfl⟩

theorem unitWorked_engine (w : BankWrite) (ok : Bool) (s : State) : (unitWorked w ok s).engine = s.engine :=
  setBank_engine ..

theorem unitWorked_table (w : BankWrite) (ok : Bool) (s : State) : (unitWorked w ok s).table = s.table :=
  setBank_table ..

theorem unitWorked_records (w : BankWrite) (ok : Bool) (s : State) :
    (unitWorked w ok s).store.activeBank = s.store.activeBank ∧
      (unitWorked w ok s).store.activeVersion = s.store.activeVersion ∧
      ∀ b, (unitWorked w ok s).bankState b = s.bankState b := by
  unfold unitWorked
  generalize w.work ok (s.bank w.target) = m
  cases w.target <;> exact ⟨rfl, rfl, bankState_of_states rfl rfl⟩

/-! What the end of a bank write reports (R153, R173). -/

theorem commitWritten_keeps (s : State) (w : BankWrite) : KeepsRequests s (s.commitWritten w) := by
  unfold State.commitWritten State.bankDone
  cases w.target <;> exact ⟨rfl, rfl, rfl, rfl, rfl⟩

theorem commitFailed_keeps (s : State) (w : BankWrite) : KeepsRequests s (s.commitFailed w) := by
  unfold State.commitFailed
  cases w.target <;> exact ⟨rfl, rfl, rfl, rfl, rfl⟩

theorem commitWritten_bank (s : State) (w : BankWrite) (b : BankId) : (s.commitWritten w).bank b = s.bank b :=
  (bank_of_memories rfl rfl b).trans (bank_setBankState s w.target b .valid)

theorem commitFailed_bank (s : State) (w : BankWrite) (b : BankId) : (s.commitFailed w).bank b = s.bank b :=
  (bank_of_memories rfl rfl b).trans (bank_setBankState s w.target b .empty)

theorem commitWritten_bankState (s : State) (w : BankWrite) : (s.commitWritten w).bankState w.target = .valid :=
  (bankState_of_states rfl rfl _).trans ((bankState_setBankState ..).trans (if_pos rfl))

theorem commitFailed_bankState (s : State) (w : BankWrite) : (s.commitFailed w).bankState w.target = .empty :=
  (bankState_of_states rfl rfl _).trans ((bankState_setBankState ..).trans (if_pos rfl))

theorem commitWritten_engine (s : State) (w : BankWrite) :
    (s.commitWritten w).engine = { s.engine with state := .applying } :=
  congrArg (fun e : Engine => { e with state := .applying }) (setBankState_engine s w.target .valid)

theorem commitWritten_table (s : State) (w : BankWrite) : (s.commitWritten w).table = s.table :=
  setBankState_table s w.target .valid

/-- R153: a bank write that failed leaves the active bank and its version. -/
theorem commitFailed_active (s : State) (w : BankWrite) :
    (s.commitFailed w).store.activeBank = s.store.activeBank ∧
      (s.commitFailed w).store.activeVersion = s.store.activeVersion := by
  unfold State.commitFailed
  cases w.target <;> exact ⟨rfl, rfl⟩

theorem commitFailed_engine (s : State) (w : BankWrite) :
    (s.commitFailed w).engine =
      { s.engine with
        state := .idle, stage := [], version := none, commitTag := none
        outcome := some
          { outcome := .writeFailed, version := s.engine.version.getD 0, itemIndex := none, reason := none } } := by
  unfold State.commitFailed
  cases w.target <;> rfl

/-! The end of each unit, by what it leads to. -/

theorem bankUnitEnded_goesOn {next : BankUnit} (hi : s.store.inFlight = .bank w) (hn : w.unit.ended ok = .goOn next) :
    s.bankUnitEnded ok = (unitWorked w ok s).continueBankWrite { w with unit := next } := by
  simp only [State.bankUnitEnded, hi, hn, unitWorked]

theorem bankUnitEnded_done (hi : s.store.inFlight = .bank w) (hn : w.unit.ended ok = .done) :
    s.bankUnitEnded ok = ((unitWorked w ok s).commitWritten w).startNextWrite.afterWrite := by
  simp only [State.bankUnitEnded, hi, hn, unitWorked]

theorem bankUnitEnded_failed (hi : s.store.inFlight = .bank w) (hn : w.unit.ended ok = .failed) :
    s.bankUnitEnded ok = ((unitWorked w ok s).commitFailed w).startNextWrite.afterWrite := by
  simp only [State.bankUnitEnded, hi, hn, unitWorked]

theorem exec_bankWriteUnitEnd {t : State} (hv : s.vsup = true) (ht : s.bankUnitEnded ok = t) :
    exec (.bankWriteUnitEnd ok) s = .next t.drive := by
  rw [← ht]
  exact event_of_supply _ s hv

end Units

/-- Settles O52: each unit is its work on the target bank, then what it leads to: the next unit, by whether a counter
write is pending, or the report of the write's end and the next holder. -/
theorem bankWriteUnitsEnd : Obligations.BankWriteUnitsEnd := by
  intro w ok s hv hi last goesOn ends free
  obtain ⟨activeBank, activeVersion, states⟩ := unitWorked_records w ok s
  have worked := unitWorked_keeps w ok s
  have goOn (next : BankUnit) (hn : w.unit.ended ok = .goOn next) :
      ∃ t, exec (.bankWriteUnitEnd ok) s = .next t ∧ goesOn t next ∧ ∀ b, t.bank b = (unitWorked w ok s).bank b := by
    have only := continueBankWrite_onlyArbiter (unitWorked w ok s) { w with unit := next }
    refine ⟨_, exec_bankWriteUnitEnd hv (bankUnitEnded_goesOn hi hn),
      ⟨fun hp => ?free, fun hp => ?pending, only.activeBank.trans activeBank, (only.bankState _).trans (states _),
        only.engine.trans (unitWorked_engine ..), only.table.trans (unitWorked_table ..)⟩, only.bank⟩
    case free =>
      rw [continueBankWrite_goesOn (worked.counterPending.trans hp)]
      exact ⟨rfl, worked.suspended⟩
    case pending =>
      rw [continueBankWrite_suspends (worked.counterPending.trans hp), ← worked.settlingWaits]
      exact ⟨rfl, rfl, rfl, rfl⟩
  have ended {u : State} (kept : KeepsRequests s u) (other : u.bank w.target.other = s.bank w.target.other)
      (hu : s.bankUnitEnded ok = u.startNextWrite.afterWrite) (hf : free) :
      ∃ t, exec (.bankWriteUnitEnd ok) s = .next t.drive ∧ ends t.drive ∧ OnlyArbiter u t := by
    obtain ⟨t, ht, only, idle, starts⟩ := nextHolder_arbiter (s := u) (by
      rw [kept.counterPending, kept.suspended, kept.waiting, kept.power]
      exact hf)
    rw [kept.counterPending] at idle starts
    rw [kept.settlingWaits] at starts
    exact ⟨t, exec_bankWriteUnitEnd hv (hu.trans ht), ⟨fun hp _ => idle hp, starts, (only.bank _).trans other⟩, only⟩
  refine ⟨fun hu => ?header, fun k hu => ?page, fun hu => ?check, fun hu hm => ?mismatch, fun hu hm hf => ?close,
    fun hu hf => ?retract⟩
  case header =>
    obtain ⟨t, he, ht, banks⟩ := goOn (.page 1) (by rw [hu]; rfl)
    exact ⟨t, he, ht, fun b => (banks b).trans (unitWorked_bank (work_header _ hu) b)⟩
  case page =>
    obtain ⟨t, he, ht, banks⟩ := goOn (if k < 32 then .page (k + 1) else .check) (by
      rw [hu]
      exact (apply_ite UnitEnd.goOn (k < 32) _ _).symm)
    refine ⟨t, he, ht, (banks _).trans (unitWorked_other w ok s), fun a => ?_⟩
    rw [banks, unitWorked_target, work_page _ hu, read_writeBytes]
    rfl
  case check =>
    obtain ⟨t, he, ht, banks⟩ := goOn (if ok = true then .close else .retract) (by
      rw [hu]
      exact (apply_ite UnitEnd.goOn (ok = true) _ _).symm)
    exact ⟨t, he, ht, fun b => (banks b).trans (unitWorked_bank (work_check _ hu) b)⟩
  case mismatch =>
    obtain ⟨t, he, ht, banks⟩ := goOn .retract (by rw [hu, hm]; rfl)
    refine ⟨t, he, ht, fun b => (banks b).trans (unitWorked_bank ?_ b)⟩
    rw [work_close _ hu, hm]
    rfl
  case close =>
    subst hm
    obtain ⟨t, he, ht, only⟩ := ended (worked.trans (commitWritten_keeps _ w))
      ((commitWritten_bank ..).trans (unitWorked_other w true s)) (bankUnitEnded_done hi (by rw [hu]; rfl)) hf
    have bytes : t.drive.bank w.target = w.work true (s.bank w.target) :=
      (only.bank _).trans ((commitWritten_bank ..).trans (unitWorked_target ..))
    have engine := only.engine.trans (commitWritten_engine ..)
    rw [unitWorked_engine] at engine
    refine ⟨_, he, ht, only.activeBank, only.activeVersion, (only.bankState _).trans (commitWritten_bankState _ w),
      congrArg (·.state) engine, congrArg (·.stage) engine,
      only.table.trans ((commitWritten_table ..).trans (unitWorked_table ..)), fun a => ?_⟩
    rw [bytes]
    exact read_work_close _ a hu
  case retract =>
    obtain ⟨t, he, ht, only⟩ := ended (worked.trans (commitFailed_keeps _ w))
      ((commitFailed_bank ..).trans (unitWorked_other w ok s)) (bankUnitEnded_failed hi (by rw [hu]; rfl)) hf
    obtain ⟨bank, version⟩ := commitFailed_active (unitWorked w ok s) w
    have bytes : t.drive.bank w.target = w.work ok (s.bank w.target) :=
      (only.bank _).trans ((commitFailed_bank ..).trans (unitWorked_target ..))
    have engine := only.engine.trans (commitFailed_engine ..)
    rw [unitWorked_engine] at engine
    refine ⟨_, he, ht, only.activeBank.trans (bank.trans activeBank),
      only.activeVersion.trans (version.trans activeVersion), (only.bankState _).trans (commitFailed_bankState _ w),
      congrArg (·.state) engine, congrArg (·.set.update) only.attention, fun a => ?_, _, congrArg (·.outcome) engine,
      rfl, rfl⟩
    rw [bytes]
    exact read_work_retract _ a hu

end Sys2Proof.Proofs

/-! Key writes, from KEYINST and FINLOCK to their end (R156, R163, R164, R198), and CLRTAMP (R181). -/

namespace Sys2Proof.Proofs

open Sys2Proof.Machine Sys2Proof.Laws

/-! ### The requests of a key write (R156, R163, R164) -/

section KeyRequests

variable {s : State} {b : List Byte} {r : KeyRecord} {code : Byte}

theorem takeKeyinst_writes (hb : b.length = 32) (hl : s.engine.finalLock = false) (hbusy : s.storeBusy = false)
    (hi : s.engine.state = .idle) :
    takeKeyinst b s = writeKey { key := some (areaOf 32 b), finalLock := false } codeKeyinst s := by
  simp only [takeKeyinst, hb, hl, hbusy, hi, ne_eq, not_true_eq_false, Bool.false_eq_true, if_false]

theorem takeFinlock_writes {k : Key} (hk : s.engine.key = some k) (hl : s.engine.finalLock = false)
    (hbusy : s.storeBusy = false) :
    takeFinlock s = writeKey { key := some k, finalLock := true } codeFinlock s := by
  simp only [takeFinlock, hk, hl, hbusy, Option.isNone_some, Bool.false_eq_true, if_false]

/-- R156: without the final lock in force, the record goes into the copy not in force, and its answer waits. -/
theorem writeKey_starts (r : KeyRecord) (code : Byte) (h : s.keyRecordInForce.finalLock = false) :
    ∃ w, writeKey r code s = (s.setInFlight (.key w), .later) ∧ w.record = r ∧ some w.copy ≠ s.store.keyInForce := by
  simp only [writeKey, State.startKeyWrite, h, Bool.false_eq_true, if_false, if_true]
  refine ⟨_, rfl, rfl, ?_⟩
  cases s.store.keyInForce with
  | none => nofun
  | some c => cases c <;> nofun

/-- A request that its owner takes for a key write: the write is in flight, and the answer waits for its end. -/
theorem request_writesKey {owner : State → State × Reply} (hh : s.hands code)
    (ho : owner (received b.length s) = writeKey r code (received b.length s))
    (hf : s.keyRecordInForce.finalLock = false) :
    ∃ t w, request code b true owner s = .next t ∧ t.port.slot = .waiting code ∧ t.store.inFlight = .key w ∧
      w.record = r ∧ some w.copy ≠ s.store.keyInForce ∧ t.engine = s.engine := by
  obtain ⟨w, starts, record, copy⟩ := writeKey_starts (s := received b.length s) r code hf
  have taken := request_handed code b owner s hh
  rw [ho, starts] at taken
  exact ⟨_, w, taken, rfl, rfl, record, copy, rfl⟩

end KeyRequests

/-! ### The end of a key write (R156, R163, R164, R198) -/

section KeyEnds

variable {s : State} {w : KeyWrite} {ok : Bool}

/-- The report of a key write to the Store and the Update Engine: stored, or lost. -/
def keyReported (w : KeyWrite) (ok : Bool) (s : State) : State := if ok = true then s.keyStored w else s.keyLost w

theorem keyReported_keeps (w : KeyWrite) (ok : Bool) (s : State) :
    KeepsRequests s (keyReported w ok s) ∧ (keyReported w ok s).port = s.port := by
  unfold keyReported State.keyStored State.keyLost
  generalize KeyCopy.encode w.generation w.record = stored
  generalize erasedArea 40 = erased
  generalize w.copy = copy
  cases ok <;> cases copy <;> exact ⟨⟨rfl, rfl, rfl, rfl, rfl⟩, rfl⟩

theorem keyCopy_keyStored (s : State) (w : KeyWrite) :
    (s.keyStored w).keyCopy w.copy = .valid w.generation w.record := by
  show (s.setKeyCopy w.copy _).keyCopy w.copy = _
  rw [keyCopy_setKeyCopy, if_pos rfl, decode_encode_copy]

theorem withCrc16_copyFields_length (g : Word32) (r : KeyRecord) : (withCrc16 (copyFields g r)).length = 40 := by
  rw [withCrc16, List.length_append, copyFields_length]
  rfl

theorem copyBytes_keyStored (s : State) (w : KeyWrite) :
    (s.keyStored w).store.copyBytes w.copy = withCrc16 (copyFields w.generation w.record) := by
  have bytes : (s.keyStored w).store.copyBytes w.copy = (KeyCopy.encode w.generation w.record).toList := by
    obtain ⟨copy, generation, record, requester⟩ := w
    cases copy <;> rfl
  exact bytes.trans (toList_areaOf (withCrc16_copyFields_length _ _))

theorem keyCopy_keyLost (s : State) (w : KeyWrite) : (s.keyLost w).keyCopy w.copy = .erased := by
  show (s.setKeyCopy w.copy _).keyCopy w.copy = _
  rw [keyCopy_setKeyCopy, if_pos rfl, decode_erased_copy]

/-- R156: a key write that failed leaves the copy in force and the live key. -/
theorem keyLost_inForce (s : State) (w : KeyWrite) :
    (s.keyLost w).store.keyInForce = s.store.keyInForce ∧ (s.keyLost w).engine = s.engine := by
  unfold State.keyLost
  generalize erasedArea 40 = erased
  cases w.copy <;> exact ⟨rfl, rfl⟩

/-- R163, R189: the answer goes into the slot that waits for it, and into no other. -/
theorem answerKeyWrite_port (s : State) (w : KeyWrite) (ok : Bool) :
    ∃ p, s.answerKeyWrite w ok = { s with port := p } ∧
      (s.port.slot = .waiting w.requester → p.slot = .holding (answerFrame w.requester .done [boolByte (!ok)])) ∧
      (s.port.slot ≠ .waiting w.requester → p.slot = s.port.slot) := by
  unfold State.answerKeyWrite
  split
  case isTrue waits => exact ⟨_, rfl, fun _ => rfl, fun other => absurd waits other⟩
  case isFalse other => exact ⟨_, rfl, fun waits => absurd waits other, fun _ => rfl⟩

/-- A key write ends with nothing behind it: its report, and the answer that still waits. -/
theorem exec_keyWriteEnd (ok : Bool) (hv : s.vsup = true) (hi : s.store.inFlight = .key w) (hn : NothingWaits s) :
    ∃ p, exec (.keyWriteEnd ok) s =
        .next (({ keyReported w ok s with port := p } : State).setInFlight .none).drive ∧
      (s.port.slot = .waiting w.requester → p.slot = .holding (answerFrame w.requester .done [boolByte (!ok)])) ∧
      (s.port.slot ≠ .waiting w.requester → p.slot = s.port.slot) := by
  obtain ⟨kept, port⟩ := keyReported_keeps w ok s
  obtain ⟨p, answers, slot⟩ := answerKeyWrite_port (keyReported w ok s) w ok
  rw [port] at slot
  have last : NothingWaits { keyReported w ok s with port := p } := kept.nothingWaits hn
  have ends : s.keyWriteEnded ok = ({ keyReported w ok s with port := p } : State).setInFlight .none := by
    rw [← last.nextHolder, ← answers]
    simp only [State.keyWriteEnded, hi, keyReported]
  refine ⟨p, ?_, slot⟩
  rw [← ends]
  exact event_of_supply _ s hv

end KeyEnds

/-- Settles O57: both requests lead to the start of a key write, which its owner's tests and the final lock in force let
through; its end is the report to the Store and the Update Engine, and the answer. -/
theorem keyWritesFromRequestToEnd : Obligations.KeyWritesFromRequestToEnd := by
  intro s free
  refine ⟨fun b ⟨lock, inForce, idle⟩ hh hb hs => ?keyinst, fun k ⟨lock, inForce, idle⟩ hh hk => ?finlock,
    fun w hv hi hp hs hw hr => ⟨?stored, ?lost⟩⟩
  case keyinst =>
    obtain ⟨t, w, he, slot, inFlight, record, copy, engine⟩ :=
      request_writesKey hh (takeKeyinst_writes (s := received b.length s) hb lock idle hs) inForce
    exact ⟨t, w, he, slot, inFlight, ⟨_, toList_areaOf hb, record⟩, copy, engine⟩
  case finlock =>
    exact request_writesKey (b := []) hh (takeFinlock_writes (s := received 0 s) hk lock idle) inForce
  case stored =>
    obtain ⟨p, he, answered, stands⟩ := exec_keyWriteEnd true hv hi ⟨hp, hs, hw, hr⟩
    have bytes := copyBytes_keyStored s w
    refine ⟨_, he, keyCopy_keyStored s w, (congrArg List.length bytes).trans (withCrc16_copyFields_length _ _), ?crc,
      rfl, rfl, rfl, rfl, answered, stands⟩
    case crc =>
      show ((s.keyStored w).store.copyBytes w.copy).drop 38 =
        leWord16 (crc16 (((s.keyStored w).store.copyBytes w.copy).take 38))
      rw [bytes]
      exact withCrc16_drop _ (copyFields_length _ _)
  case lost =>
    obtain ⟨p, he, answered, stands⟩ := exec_keyWriteEnd false hv hi ⟨hp, hs, hw, hr⟩
    obtain ⟨inForce, engine⟩ := keyLost_inForce s w
    exact ⟨_, he, keyCopy_keyLost s w, inForce, congrArg (·.key) engine, congrArg (·.finalLock) engine, rfl, rfl,
      answered, stands⟩

/-! ### CLRTAMP (R152, R155, R181) -/

theorem tamperTagMatches_iff (s : State) (b : List Byte) :
    s.tamperTagMatches b = true ↔ b = hmacSha256 s.tagKey (tamperMessage s.engine.tamperCount) := by
  rw [State.tamperTagMatches, beq_iff_eq]

section Clrtamp

variable {s : State} {b : List Byte}

theorem takeClrtamp_badArgument (hb : b.length ≠ 32) : takeClrtamp b s = refuse .badArgument s := if_pos hb

theorem takeClrtamp_state (hb : b.length = 32) (hl : s.engine.tamperLatch = false) :
    takeClrtamp b s = refuse .state s := by
  rw [takeClrtamp, if_neg (not_not_intro hb), if_pos hl]

theorem takeClrtamp_noKey (hb : b.length = 32) (hl : s.engine.tamperLatch = true) (hk : s.engine.key = none) :
    takeClrtamp b s = refuse .noKey s := by
  rw [takeClrtamp, if_neg (not_not_intro hb), if_neg (by rw [hl]; decide), if_pos (by rw [hk]; rfl)]

/-- With the latch set and a key installed the tag decides. -/
theorem takeClrtamp_tested (hb : b.length = 32) (hl : s.engine.tamperLatch = true) (hk : s.engine.key ≠ none) :
    takeClrtamp b s =
      if b = hmacSha256 s.tagKey (tamperMessage s.engine.tamperCount) then (s.clearTamper, .now .done [])
      else refuse .tagBad s := by
  rw [takeClrtamp, if_neg (not_not_intro hb), if_neg (by rw [hl]; decide),
    if_neg (by rwa [Option.isNone_iff_eq_none]), ← ite_not]
  simp only [Bool.not_eq_false, tamperTagMatches_iff]

end Clrtamp

/-- Settles O58: each clause is one of the owner's answers, whose tests do not see the port. -/
theorem clrtampNeedsItsTag : Obligations.ClrtampNeedsItsTag := by
  intro b s hh refused expected
  have refuses (a : AnswerCode) (h : takeClrtamp b (received b.length s) = refuse a (received b.length s)) :
      refused a :=
    request_refuses codeClrtamp b (takeClrtamp b) s a hh h
  have tested (hb : b.length = 32) (hl : s.engine.tamperLatch = true) (hk : s.engine.key ≠ none) :=
    takeClrtamp_tested (s := received b.length s) hb hl hk
  refine ⟨fun hb => refuses _ (takeClrtamp_badArgument hb), fun hb hl => refuses _ (takeClrtamp_state hb hl),
    fun hb hl hk => refuses _ (takeClrtamp_noKey hb hl hk),
    fun hb hl hk ht => refuses _ ((tested hb hl hk).trans (if_neg ht)), fun hb hl hk ht => ?cleared⟩
  case cleared =>
    intro cleared
    have owner := (tested hb hl hk).trans (if_pos ht)
    rw [State.clearTamper, requestCounterWrite_eq] at owner
    have done := request_answers codeClrtamp b (takeClrtamp b) s
      { cleared with store := s.store.requested false cleared.snapshot } .done [] hh owner
    rw [hb] at done
    exact done

end Sys2Proof.Proofs

/-! The byte layouts read back (11.3, 11.4, 11.7, R149, R166, R196): numbers, limits, definitions, items and images. -/

namespace Sys2Proof.Proofs

open Sys2Proof.Machine Sys2Proof.Laws

/-! ### Numbers (R196) -/

section Numbers

variable {b : List Byte} {i n : Nat}

theorem u8_of_byte (h : b.getD i 0 = BitVec.ofNat 8 n) (hn : n < 256) : u8 b i = n := by
  rw [u8, h, BitVec.toNat_ofNat]
  exact Nat.mod_eq_of_lt hn

theorem u16_of_bytes (h0 : b.getD i 0 = BitVec.ofNat 8 n) (h1 : b.getD (i + 1) 0 = BitVec.ofNat 8 (n / 256))
    (hn : n < 65536) : u16 b i = n := by
  simp only [u16, u8, h0, h1, BitVec.toNat_ofNat]
  omega

theorem i32_of_bytes {v : Int} (h : (b.drop i).take 4 = leInt v) (hv : -2147483648 ≤ v ∧ v < 2147483648) :
    i32 b i = v := by
  rw [i32, word32_of_bytes _ b i h]
  exact BitVec.toInt_ofInt_eq_self (by decide) hv.1 hv.2

theorem absentFF_optByteFF {v : Option Nat} (h : ∀ n, v = some n → n < 255) : absentFF (optByteFF v).toNat = v := by
  cases v with
  | none => rfl
  | some n =>
    have hn := h n rfl
    have value : (optByteFF (some n)).toNat = n := Nat.mod_eq_of_lt (Nat.lt_succ_of_lt hn)
    rw [value, absentFF, if_neg (by omega)]

theorem u32_lt (b : List Byte) (i : Nat) : u32 b i < 4294967296 := by
  have small (k : Nat) : u8 b k < 256 := (b.getD k 0).isLt
  have h0 := small i
  have h1 := small (i + 1)
  have h2 := small (i + 2)
  have h3 := small (i + 3)
  unfold u32
  omega

/-- An optional number whose absent code is zero. -/
theorem absentZero {v : Option Nat} (h : ∀ n, v = some n → n ≠ 0) :
    (if v.getD 0 = 0 then none else some (v.getD 0)) = v := by
  cases v with
  | none => rfl
  | some n => exact if_neg (h n rfl)

end Numbers

theorem kind_ofCode (k : Kind) : Kind.ofCode k.code = some k := by
  cases k <;> rfl

theorem guard_ofCode (g : Guard) : Guard.ofCode g.code = some g := by
  cases g <;> rfl

theorem kind_code_lt (k : Kind) : k.code < 256 := by
  cases k <;> decide

theorem guard_code_lt (g : Guard) : g.code < 256 := by
  cases g <;> decide

/-- Four flags in the low bits of a byte. -/
theorem flagByte_bits (f0 f1 f2 f3 : Bool) :
    (flagByte f0 f1 f2 f3 false false false false).toNat < 16 ∧
      (flagByte f0 f1 f2 f3 false false false false).toNat.testBit 0 = f0 ∧
      (flagByte f0 f1 f2 f3 false false false false).toNat.testBit 1 = f1 ∧
      (flagByte f0 f1 f2 f3 false false false false).toNat.testBit 2 = f2 ∧
      (flagByte f0 f1 f2 f3 false false false false).toNat.testBit 3 = f3 := by
  revert f0 f1 f2 f3
  decide

theorem actions_ofCode (a : Actions) : Actions.ofCode a.toByte.toNat = some a := by
  obtain ⟨low, report, inhibit, opens, wakes⟩ := flagByte_bits a.report a.inhibit a.opens a.wakes
  simp only [Actions.ofCode, Actions.toByte, low, report, inhibit, opens, wakes, if_true]

/-! ### Limits (R6, 11.3) -/

/-- Every limit present is a signed 32-bit number. -/
def LimitsFit (l : Limits) : Prop := ∀ v ∈ l.present, -2147483648 ≤ v ∧ v < 2147483648

theorem mem_present (l : Limits) (v : Int) :
    v ∈ l.present ↔ l.lowTrip = some v ∨ l.lowWarn = some v ∨ l.highWarn = some v ∨ l.highTrip = some v := by
  simp [Limits.present, eq_comm]

theorem limitsFit_of_within {l : Limits} {r : Int × Int} (h : l.within r = true)
    (hr : -2147483648 ≤ r.1 ∧ r.2 < 2147483648) : LimitsFit l := by
  intro v hv
  have inside := List.all_eq_true.1 h v hv
  simp only [inRange, Bool.and_eq_true, decide_eq_true_eq] at inside
  omega

theorem presentLimit_of_bytes {b : List Byte} {i : Nat} {v : Option Int} (h : (b.drop i).take 4 = optInt v)
    (hv : ∀ x, v = some x → -2147483648 ≤ x ∧ x < 2147483648) : presentLimit v.isSome b i = some v := by
  cases v with
  | some x => exact congrArg (fun y => some (some y)) (i32_of_bytes h (hv x rfl))
  | none =>
    have zero := word32_of_bytes 0 b i h
    have small := u32_lt b i
    have byValue : u32 b i % 4294967296 = 0 := congrArg BitVec.toNat zero
    have value : u32 b i = 0 := by omega
    exact if_pos value

theorem decodeLimits_of_bytes {l : Limits} {b : List Byte} {i : Nat} (hl : LimitsFit l)
    (h0 : (b.drop i).take 4 = optInt l.lowTrip) (h1 : (b.drop (i + 4)).take 4 = optInt l.lowWarn)
    (h2 : (b.drop (i + 8)).take 4 = optInt l.highWarn) (h3 : (b.drop (i + 12)).take 4 = optInt l.highTrip) :
    decodeLimits l.presence.toNat b i = some l := by
  obtain ⟨low, lowTrip, lowWarn, highWarn, highTrip⟩ :=
    flagByte_bits l.lowTrip.isSome l.lowWarn.isSome l.highWarn.isSome l.highTrip.isSome
  simp only [decodeLimits, Limits.presence, low, lowTrip, lowWarn, highWarn, highTrip, if_true,
    presentLimit_of_bytes h0 (fun v hv => hl v ((mem_present l v).2 (.inl hv))),
    presentLimit_of_bytes h1 (fun v hv => hl v ((mem_present l v).2 (.inr (.inl hv)))),
    presentLimit_of_bytes h2 (fun v hv => hl v ((mem_present l v).2 (.inr (.inr (.inl hv))))),
    presentLimit_of_bytes h3 (fun v hv => hl v ((mem_present l v).2 (.inr (.inr (.inr hv))))),
    Option.bind_eq_bind, Option.bind_some]

/-! ### Definitions (11.3) -/

/-- What the layout can carry of a definition: every field within its bytes, and off its absent code. -/
structure Encodable (d : Definition) : Prop where
  monitor : ∀ n, d.monitor = some n → n < 255
  channel : ∀ n, d.channel = some n → n < 255
  slot : ∀ n, d.slot = some n → n < 255
  divider : d.divider < 256
  limits : LimitsFit d.limits
  hysteresis : d.hysteresis < 65536
  persistence : d.persistence < 256
  sleepDivider : ∀ n, d.sleepDivider = some n → n ≠ 0 ∧ n < 256
  memberCount : d.members.length ≤ 16
  members : ∀ m ∈ d.members, m < 65536

theorem length_flatMap_le16 (ms : List Nat) : (ms.flatMap le16).length = 2 * ms.length := by
  induction ms with
  | nil => rfl
  | cons m ms ih =>
    rw [List.flatMap_cons, List.length_append, ih, List.length_cons]
    show 2 + 2 * ms.length = _
    omega

theorem idList_flatMap {ms : List Nat} (h : ∀ m ∈ ms, m < 65536) {pre : List Byte} {i : Nat} (hi : pre.length = i) :
    idList (pre ++ ms.flatMap le16) i ms.length = ms := by
  induction ms generalizing pre i with
  | nil => rfl
  | cons m ms ih =>
    subst hi
    have id : u16 (pre ++ (m :: ms).flatMap le16) pre.length = m := by
      refine u16_of_bytes ?_ ?_ (h m List.mem_cons_self)
      · rw [List.getD_eq_getElem?_getD, List.getElem?_append_right (Nat.le_refl _), Nat.sub_self]
        rfl
      · rw [List.getD_eq_getElem?_getD, List.getElem?_append_right (Nat.le_add_right _ 1), Nat.add_sub_cancel_left]
        rfl
    have rest := ih (fun m hm => h m (List.mem_cons_of_mem _ hm)) (pre := pre ++ le16 m) (i := pre.length + 2)
      List.length_append
    rw [List.append_assoc] at rest
    rw [List.length_cons, idList, id]
    exact congrArg (m :: ·) rest

/-- 11.3: the layout, in its order: seven bytes, the four limits, seven bytes, the members. -/
theorem definition_encode_eq (d : Definition) :
    d.encode =
      BitVec.ofNat 8 d.kind.code :: BitVec.ofNat 8 d.guard.code :: optByteFF d.monitor :: optByteFF d.channel ::
        optByteFF d.slot :: BitVec.ofNat 8 d.divider :: d.limits.presence ::
        (optInt d.limits.lowTrip ++ (optInt d.limits.lowWarn ++ (optInt d.limits.highWarn ++
          (optInt d.limits.highTrip ++ BitVec.ofNat 8 d.hysteresis :: BitVec.ofNat 8 (d.hysteresis / 256) ::
            BitVec.ofNat 8 d.persistence :: d.actions.toByte :: boolByte d.staleTrips ::
            BitVec.ofNat 8 (d.sleepDivider.getD 0) :: BitVec.ofNat 8 d.members.length :: d.members.flatMap le16)))) := by
  simp only [Definition.encode, Limits.bytes, le8, le16, List.append_assoc, List.cons_append, List.nil_append]

theorem encode_length (d : Definition) : d.encode.length = 30 + 2 * d.members.length := by
  rw [Definition.encode, List.length_append, length_flatMap_le16]
  rfl

theorem memberCount_byte {d : Definition} (h : d.members.length ≤ 16) : u8 d.encode 29 = d.members.length :=
  u8_of_byte (congrArg (·.getD 29 0) (definition_encode_eq d)) (by omega)

/-- 11.3: a definition is read back from its layout. -/
theorem decode_encode_definition {d : Definition} (h : Encodable d) : Definition.decode d.encode = some d := by
  have bytes := definition_encode_eq d
  have byte (k : Nat) := congrArg (·.getD k 0) bytes
  have limit (k : Nat) := congrArg (fun b => (b.drop k).take 4) bytes
  have count := memberCount_byte h.memberCount
  have kind : Kind.ofCode (u8 d.encode 0) = some d.kind := by
    rw [u8_of_byte (byte 0) (kind_code_lt _), kind_ofCode]
  have guard : Guard.ofCode (u8 d.encode 1) = some d.guard := by
    rw [u8_of_byte (byte 1) (guard_code_lt _), guard_ofCode]
  have limits : decodeLimits (u8 d.encode 6) d.encode 7 = some d.limits :=
    (congrArg (decodeLimits · d.encode 7) (congrArg (u8 · 6) bytes)).trans
      (decodeLimits_of_bytes h.limits (limit 7) (limit 11) (limit 15) (limit 19))
  have actions : Actions.ofCode (u8 d.encode 26) = some d.actions :=
    (congrArg (fun b => Actions.ofCode (u8 b 26)) bytes).trans (actions_ofCode d.actions)
  have staleTrips : boolOf (u8 d.encode 27) = some d.staleTrips :=
    (congrArg (fun b => boolOf (u8 b 27)) bytes).trans (boolOf_boolByte d.staleTrips)
  have monitor : absentFF (u8 d.encode 2) = d.monitor :=
    (congrArg (fun b => absentFF (u8 b 2)) bytes).trans (absentFF_optByteFF h.monitor)
  have channel : absentFF (u8 d.encode 3) = d.channel :=
    (congrArg (fun b => absentFF (u8 b 3)) bytes).trans (absentFF_optByteFF h.channel)
  have slot : absentFF (u8 d.encode 4) = d.slot :=
    (congrArg (fun b => absentFF (u8 b 4)) bytes).trans (absentFF_optByteFF h.slot)
  have divider : u8 d.encode 5 = d.divider := u8_of_byte (byte 5) h.divider
  have hysteresis : u16 d.encode 23 = d.hysteresis := u16_of_bytes (byte 23) (byte 24) h.hysteresis
  have persistence : u8 d.encode 25 = d.persistence := u8_of_byte (byte 25) h.persistence
  have sleepByte : u8 d.encode 28 = d.sleepDivider.getD 0 := by
    refine u8_of_byte (byte 28) ?_
    cases hs : d.sleepDivider with
    | none => decide
    | some n => exact (h.sleepDivider n hs).2
  have sleepDivider := absentZero (fun n hn => (h.sleepDivider n hn).1)
  have members : idList d.encode 30 d.members.length = d.members := idList_flatMap h.members rfl
  have length : d.encode.length = 30 + 2 * u8 d.encode 29 := by rw [count, encode_length]
  rw [Definition.decode, if_pos length]
  simp only [kind, guard, limits, actions, staleTrips, monitor, channel, slot, divider, hysteresis, persistence,
    sleepByte, sleepDivider, count, members, Option.bind_eq_bind, Option.bind_some]

/-! ### Well-formed definitions (R2 to R9) -/

theorem limitRange_fits (k m : Kind) :
    -2147483648 ≤ (limitRange k m).1 ∧ (limitRange k m).2 < 2147483648 := by
  cases k <;> cases m <;> decide

theorem lt_of_any_le {v : Option Nat} {top : Nat} (h : v.any (· ≤ top) = true) (ht : top < 255) :
    ∀ n, v = some n → n < 255 := by
  rintro n rfl
  have := of_decide_eq_true (show decide (n ≤ top) = true from h)
  omega

theorem lt_of_isNone {v : Option Nat} (h : v.isNone = true) : ∀ n, v = some n → n < 255 := by
  rintro n rfl
  cases h

/-- R2: the source fields are absent, or within the range of their kind. -/
theorem source_of_sourceOk {d : Definition} (h : d.sourceOk = true) :
    (∀ n, d.monitor = some n → n < 255) ∧ (∀ n, d.channel = some n → n < 255) ∧
      (d.kind.isAggregate = false → d.members = []) := by
  unfold Definition.sourceOk at h
  split at h <;> simp only [Bool.and_eq_true] at h
  case h_1 hk | h_2 hk =>
    exact ⟨lt_of_any_le h.1.1 (by decide), lt_of_any_le h.1.2 (by decide), fun _ => List.isEmpty_iff.1 h.2⟩
  case h_3 hk | h_4 hk | h_5 hk =>
    exact ⟨lt_of_isNone h.1.1, lt_of_isNone h.1.2, fun _ => List.isEmpty_iff.1 h.2⟩
  case h_6 hk | h_7 hk | h_8 hk =>
    exact ⟨lt_of_isNone h.1, lt_of_isNone h.2, fun single => by rw [hk] at single; cases single⟩

/-- R4: at most 16 members, each an id of the table. -/
theorem members_of_shape {d : Definition} (h : membersShapeOk d = true)
    (single : d.kind.isAggregate = false → d.members = []) :
    d.members.length ≤ 16 ∧ ∀ m ∈ d.members, m < 65536 := by
  cases hk : d.kind.isAggregate with
  | false =>
    rw [single hk]
    exact ⟨Nat.zero_le _, nofun⟩
  | true =>
    simp only [membersShapeOk, hk, Bool.not_true, Bool.false_or, Bool.and_eq_true, decide_eq_true_eq,
      List.all_eq_true] at h
    obtain ⟨⟨⟨-, count⟩, -⟩, ids⟩ := h
    exact ⟨count, fun m hm => Nat.lt_of_le_of_lt (ids m hm) (by decide)⟩

theorem slot_of_slotShapeOk {d : Definition} (h : d.slotShapeOk = true) : ∀ n, d.slot = some n → n < 255 := by
  unfold Definition.slotShapeOk at h
  split at h
  · exact lt_of_isNone h
  · exact lt_of_any_le h (by decide)

/-- R167: the layout carries every definition of a well-formed POINT item. -/
theorem encodable_of_wellFormed {id : Nat} {d : Definition} (h : (Item.point id d).wellFormed = true) :
    id ≤ 383 ∧ Encodable d := by
  simp only [Item.wellFormed, Definition.shapeOk, Definition.rangesOk, Definition.stagedLimitsOk, Bool.and_eq_true,
    Bool.or_eq_true, decide_eq_true_eq] at h
  obtain ⟨⟨hid, ⟨⟨⟨⟨⟨⟨source, members⟩, slot⟩, ranges⟩, -⟩, -⟩, -⟩⟩, limits⟩ := h
  obtain ⟨⟨⟨⟨⟨-, divider⟩, -⟩, persistence⟩, hysteresis⟩, sleep⟩ := ranges
  obtain ⟨monitor, channel, single⟩ := source_of_sourceOk source
  obtain ⟨count, ids⟩ := members_of_shape members single
  refine ⟨hid, monitor, channel, slot_of_slotShapeOk slot, by omega, ?_, by omega, by omega, fun n hn => ?_, count, ids⟩
  · rcases limits with within | within <;> exact limitsFit_of_within within (limitRange_fits _ _)
  · rw [hn] at sleep
    simp only [Option.all_some, Bool.and_eq_true, decide_eq_true_eq] at sleep
    omega

/-! ### Items (11.4, R166) -/

/-- 11.4: the layout of a profile, in its order. -/
theorem profile_encode_eq (p : Profile) :
    p.encode =
      [BitVec.ofNat 8 p.packPoint, BitVec.ofNat 8 (p.packPoint / 256), BitVec.ofNat 8 p.busPoint,
        BitVec.ofNat 8 (p.busPoint / 256), BitVec.ofNat 8 p.currentPoint, BitVec.ofNat 8 (p.currentPoint / 256),
        BitVec.ofNat 8 p.prechargeRatio, BitVec.ofNat 8 p.prechargeTimeout, BitVec.ofNat 8 (p.prechargeTimeout / 256),
        BitVec.ofNat 8 p.minPrecharge, BitVec.ofNat 8 (p.minPrecharge / 256), BitVec.ofNat 8 p.auxConfirm,
        BitVec.ofNat 8 p.dropout, BitVec.ofNat 8 p.breakLimit, BitVec.ofNat 8 (p.breakLimit / 256),
        BitVec.ofNat 8 p.deferMax, BitVec.ofNat 8 (p.deferMax / 256)] := rfl

/-- 11.4: a profile is read back behind its kind byte, or its presence byte. -/
theorem decode_encode_profile {p : Profile} (x : Byte) (h : p.rangesOk = true) :
    Profile.decode (x :: p.encode) 1 = p := by
  simp only [Profile.rangesOk, between, Bool.and_eq_true, decide_eq_true_eq] at h
  obtain ⟨⟨⟨⟨⟨⟨⟨⟨⟨pack, bus⟩, current⟩, -, ratio⟩, -, timeout⟩, least⟩, -, confirm⟩, -, dropout⟩, limit⟩, defer⟩ := h
  rw [profile_encode_eq, Profile.decode, u16_of_bytes (n := p.packPoint) rfl rfl (by omega),
    u16_of_bytes (n := p.busPoint) rfl rfl (by omega), u16_of_bytes (n := p.currentPoint) rfl rfl (by omega),
    u8_of_byte (n := p.prechargeRatio) rfl (by omega), u16_of_bytes (n := p.prechargeTimeout) rfl rfl (by omega),
    u16_of_bytes (n := p.minPrecharge) rfl rfl (by omega), u8_of_byte (n := p.auxConfirm) rfl (by omega),
    u8_of_byte (n := p.dropout) rfl (by omega), u16_of_bytes (n := p.breakLimit) rfl rfl (by omega),
    u16_of_bytes (n := p.deferMax) rfl rfl (by omega)]

theorem decode_encode_frame {f : FrameParams} (h : f.rangesOk = true) : FrameParams.decode f.encode 0 = f := by
  simp only [FrameParams.rangesOk, between, Bool.and_eq_true, decide_eq_true_eq] at h
  obtain ⟨⟨⟨⟨-, length⟩, -, slots⟩, -, period⟩, monitors⟩ := h
  rw [FrameParams.decode, u8_of_byte (n := f.frameLength) rfl (by omega), u8_of_byte (n := f.slotCount) rfl (by omega),
    u16_of_bytes (n := f.sleepPeriod) rfl rfl (by omega), u8_of_byte (n := f.monitorCount) rfl (by omega)]

theorem decode_encode_group {g : GroupItem} (h : g.rangesOk = true) :
    Item.decode (Item.group g).encode = some (.group g) := by
  simp only [GroupItem.rangesOk, between, Bool.and_eq_true, decide_eq_true_eq] at h
  obtain ⟨⟨⟨⟨⟨⟨cell, first⟩, last⟩, -⟩, hysteresis⟩, -, persistence⟩, within⟩ := h
  have range : -2147483648 ≤ g.kind.range.1 ∧ g.kind.range.2 < 2147483648 := by
    cases g.kind <;> decide
  have kind : Kind.ofCode (u8 (Item.group g).encode 1) = some g.kind := by
    rw [u8_of_byte (n := g.kind.code) rfl (kind_code_lt _), kind_ofCode]
  have limits : decodeLimits (u8 (Item.group g).encode 4) (Item.group g).encode 5 = some g.limits :=
    decodeLimits_of_bytes (limitsFit_of_within within range) rfl rfl rfl rfl
  have first : u8 (Item.group g).encode 2 = g.first := u8_of_byte rfl (by omega)
  have last : u8 (Item.group g).encode 3 = g.last := u8_of_byte rfl (by omega)
  have hysteresis : u16 (Item.group g).encode 21 = g.hysteresis := u16_of_bytes rfl rfl (by omega)
  have persistence : u8 (Item.group g).encode 23 = g.persistence := u8_of_byte rfl (by omega)
  have code : u8 (Item.group g).encode 0 = 3 := rfl
  have length : (Item.group g).encode.length = 24 := rfl
  simp only [Item.decode, code, length, kind, limits, first, last, hysteresis, persistence, if_true,
    Option.bind_eq_bind, Option.bind_some]

theorem decode_encode_item {x : Item} (h : x.wellFormed = true) : Item.decode x.encode = some x := by
  cases x with
  | point id d =>
    obtain ⟨hid, encodable⟩ := encodable_of_wellFormed h
    have target : u16 (Item.point id d).encode 1 = id := u16_of_bytes rfl rfl (by omega)
    show (Definition.decode d.encode).map (Item.point (u16 (Item.point id d).encode 1)) = _
    rw [decode_encode_definition encodable, target]
    rfl
  | remove id =>
    have hid : id ≤ 383 := of_decide_eq_true h
    have target : u16 (Item.remove id).encode 1 = id := u16_of_bytes rfl rfl (by omega)
    exact congrArg (fun n => some (Item.remove n)) target
  | group g => exact decode_encode_group h
  | profile p => exact congrArg (fun q => some (Item.profile q)) (decode_encode_profile 4 h)
  | frame f => exact congrArg (fun q => some (Item.frame q)) (decode_encode_frame h)

/-! ### Images (11.7, R149) -/

theorem entryBytes_length {x : Option Definition} (h : ∀ d, x = some d → Encodable d) :
    (entryBytes x).length = entrySize := by
  cases x with
  | none => exact List.length_replicate
  | some d =>
    have count := (h d rfl).memberCount
    simp only [entryBytes, List.length_append, List.length_replicate, encode_length, List.length_singleton, entrySize]
    omega

theorem u8_cons (x : Byte) (b : List Byte) (i : Nat) : u8 (x :: b) (i + 1) = u8 b i := rfl

theorem u8_append {b c : List Byte} {i : Nat} (h : i < b.length) : u8 (b ++ c) i = u8 b i := by
  rw [u8, u8, List.getD_eq_getElem?_getD, List.getD_eq_getElem?_getD, List.getElem?_append_left h]

theorem entryBytes_some (d : Definition) :
    entryBytes (some d) = 1 :: (d.encode ++ List.replicate (62 - d.encode.length) 0) := by
  simp only [entryBytes, List.cons_append, List.nil_append]

theorem decodeEntry_entryBytes {x : Option Definition} (h : ∀ d, x = some d → Encodable d) :
    decodeEntry (entryBytes x) = x := by
  cases x with
  | none => rfl
  | some d =>
    have encodable := h d rfl
    rw [entryBytes_some]
    generalize List.replicate (62 - d.encode.length) (0 : Byte) = fill
    have inside : 29 < d.encode.length := by
      rw [encode_length]
      omega
    have count : u8 (1 :: (d.encode ++ fill)) 30 = d.members.length :=
      (u8_cons _ _ 29).trans ((u8_append inside).trans (memberCount_byte encodable.memberCount))
    have occupied : u8 (1 :: (d.encode ++ fill)) 0 = 1 := rfl
    rw [decodeEntry, if_pos occupied, count, ← encode_length, List.drop_one, List.tail_cons, List.take_left' rfl,
      decode_encode_definition encodable]

/-- 11.7: the entries are read back, whatever stands behind them. -/
theorem decodeEntries_flatMap {xs : List (Option Definition)} (h : ∀ x ∈ xs, ∀ d, x = some d → Encodable d)
    (rest : List Byte) : decodeEntries xs.length (xs.flatMap entryBytes ++ rest) = xs := by
  induction xs with
  | nil => rfl
  | cons x xs ih =>
    have length := entryBytes_length (h x List.mem_cons_self)
    rw [List.flatMap_cons, List.append_assoc, List.length_cons, decodeEntries, List.take_left' length,
      List.drop_left' length, decodeEntry_entryBytes (h x List.mem_cons_self),
      ih fun y hy => h y (List.mem_cons_of_mem _ hy)]

theorem flatMap_entryBytes_length {xs : List (Option Definition)} (h : ∀ x ∈ xs, ∀ d, x = some d → Encodable d) :
    (xs.flatMap entryBytes).length = entrySize * xs.length := by
  induction xs with
  | nil => rfl
  | cons x xs ih =>
    rw [List.flatMap_cons, List.length_append, entryBytes_length (h x List.mem_cons_self),
      ih fun y hy => h y (List.mem_cons_of_mem _ hy), List.length_cons, Nat.mul_succ, Nat.add_comm]

theorem profileBytes_length (p : Option Profile) : (profileBytes p).length = 18 := by
  cases p <;> rfl

theorem decodeStoredProfile_profileBytes {p : Option Profile} (h : ∀ q, p = some q → q.rangesOk = true) :
    decodeStoredProfile (profileBytes p) = p := by
  cases p with
  | none => rfl
  | some q => exact congrArg some (decode_encode_profile 1 (h q rfl))

/-- R149, 11.7: an image of settings that the layouts carry is read back from its bytes. -/
theorem decode_encode_image {i : Image} (hd : ∀ x ∈ i.points.toList, ∀ d, x = some d → Encodable d)
    (hp : ∀ p, i.profile = some p → p.rangesOk = true) (hf : i.frame.rangesOk = true) : Image.decode i.encode = i := by
  have length := flatMap_entryBytes_length hd
  have entries := decodeEntries_flatMap hd (profileBytes i.profile ++ i.frame.encode)
  rw [Vector.length_toList] at length entries
  rw [Image.decode, Image.encode, List.append_assoc, entries, List.drop_left' length,
    List.take_left' (profileBytes_length _), List.drop_left' (profileBytes_length _),
    decodeStoredProfile_profileBytes hp, decode_encode_frame hf]
  have points : (Vector.ofFn fun id : Fin 384 => (i.points.toList[id.val]?).getD none) = i.points := by
    ext id
    simp
  rw [points]

/-- Settles O11: items by their kinds; an image by its entries, its profile and its parameters, each read back behind
what stands before it. -/
theorem itemsAndImagesDecodeFromTheirBytes : Obligations.ItemsAndImagesDecodeFromTheirBytes := by
  refine ⟨fun x => decode_encode_item, fun i hd hp hf => decode_encode_image (fun x hx d hxd => ?_) hp hf⟩
  obtain ⟨id, hid, stored⟩ := List.getElem_of_mem hx
  rw [Vector.length_toList] at hid
  exact (encodable_of_wellFormed (hd ⟨id, hid⟩ d (stored.trans hxd))).2

end Sys2Proof.Proofs

/-! Authenticated updates (chapter 9): UOPEN, USTAGE, UCOMMIT and UABANDON, the completion of a verification, and the
frame start that applies a commit (R165 to R168, R170, R173, R174, R176, R178, R179). -/

namespace Sys2Proof.Proofs

open Sys2Proof.Machine Sys2Proof.Laws

/-! ### The commit at a frame start (R174, R176, R178) -/

/-- R166, R182: what the end of a transaction writes. -/
theorem endTransaction_eq (o : Outcome) (index : Option Nat) (reason : Option InvalidReason) (s : State) :
    s.endTransaction o index reason =
      { s with
        engine :=
          { s.engine with
            state := .idle, stage := [], version := none, commitTag := none
            outcome := some
              { outcome := o, version := s.engine.version.getD 0, itemIndex := index, reason := reason } }
        attention := { s.attention with set := { s.attention.set with update := true } } } := rfl

/-- `t` differs from `s` in records, parameters and profile, which the items of a commit write, and leaves the Store and
the Update Engine alone. -/
structure LeavesUpdate (s t : State) : Prop where
  store : t.store = s.store
  engine : t.engine = s.engine

theorem LeavesUpdate.refl (s : State) : LeavesUpdate s s := ⟨rfl, rfl⟩

theorem LeavesUpdate.trans {s t u : State} (h : LeavesUpdate s t) (k : LeavesUpdate t u) : LeavesUpdate s u :=
  ⟨k.store.trans h.store, k.engine.trans h.engine⟩

theorem leavesUpdate_of_applies {s t : State} (h : OnlyApplies s t) : LeavesUpdate s t := ⟨h.store, h.engine⟩

theorem leavesUpdate_foldl {α : Type} (f : State → α → State) (h : ∀ s x, LeavesUpdate s (f s x)) (xs : List α)
    (s : State) : LeavesUpdate s (xs.foldl f s) := by
  induction xs generalizing s with
  | nil => exact .refl s
  | cons x rest ih => exact (h s x).trans (ih _)

theorem applyGroupAt_leavesUpdate (s : State) (g : GroupItem) (id : Nat) : LeavesUpdate s (s.applyGroupAt g id) := by
  unfold State.applyGroupAt
  split
  · split <;> exact ⟨rfl, rfl⟩
  all_goals exact .refl s

theorem applyItem_leavesUpdate (s : State) (x : Item) : LeavesUpdate s (s.applyItem x) := by
  cases x with
  | point id d =>
    show LeavesUpdate s (s.applyPointItem id d)
    unfold State.applyPointItem
    split <;> exact ⟨rfl, rfl⟩
  | remove id => exact leavesUpdate_of_applies (vacate_applies s id)
  | group g => exact leavesUpdate_foldl _ (fun t id => applyGroupAt_leavesUpdate t g id) tableIds s
  | profile p => exact ⟨rfl, rfl⟩
  | frame f => exact ⟨rfl, rfl⟩

/-- R176: a POINT item gives its point its definition, whatever the record was. -/
theorem applyPointItem_liveDefinition (s : State) {id : Nat} (d : Definition) (h : id ≤ 383) :
    ((s.applyPointItem id d).point id).liveDefinition? = some d := by
  have written (l : Live) : ((s.setPoint id (.live d l none)).point id).liveDefinition? = some d := by
    rw [point_setPoint, if_pos ⟨rfl, by omega⟩]
    rfl
  unfold State.applyPointItem
  split <;> exact written _

/-- R176: a REMOVE item vacates its point. -/
theorem applyItem_remove (s : State) (id : Nat) : (s.applyItem (.remove id)).point id = .vacant :=
  (point_vacate s id id).trans (if_pos rfl)

/-- R174: a commit in APPLYING: its items in stage order, and the end of the transaction. -/
theorem applyCommit_applying {s : State} (h : s.engine.state = .applying) :
    s.applyCommit = (s.engine.stage.foldl (fun t x => t.applyItem x) s).endTransaction .applied none none := by
  simp only [State.applyCommit, h]

/-- `t` keeps what a commit has written in `s`: the records' definitions, the profile, the parameters and the outcome,
with the cause UPDATE and the Store. -/
structure KeepsCommit (s t : State) : Prop where
  store : t.store = s.store
  engine : t.engine = s.engine
  seq : t.seq = s.seq
  active : t.clock.active = s.clock.active
  update : t.attention.set.update = s.attention.set.update
  definitions : ∀ id, (t.point id).liveDefinition? = (s.point id).liveDefinition?
  vacant : ∀ id, t.point id = .vacant ↔ s.point id = .vacant

theorem KeepsCommit.trans {s t u : State} (h : KeepsCommit s t) (k : KeepsCommit t u) : KeepsCommit s u where
  store := k.store.trans h.store
  engine := k.engine.trans h.engine
  seq := k.seq.trans h.seq
  active := k.active.trans h.active
  update := k.update.trans h.update
  definitions := fun id => (k.definitions id).trans (h.definitions id)
  vacant := fun id => (k.vacant id).trans (h.vacant id)

theorem keepsCommit_of_judges {s t : State} (h : OnlyJudges s t) : KeepsCommit s t :=
  ⟨h.store, h.engine, h.seq, by rw [h.clock], by rw [h.attention], h.definitions, h.vacant⟩

theorem keepsCommit_of_runs {s t : State} (h : OnlyRuns s t) : KeepsCommit s t :=
  ⟨h.store, h.engine, h.seq, h.active, h.update, h.definitions, h.vacant⟩

/-- The number, the timer and the decision on discovery of the new frame do not touch what a commit writes. -/
theorem openNumber_keepsCommit (s : State) : KeepsCommit s s.openNumber.decideDiscovery := by
  rw [decideDiscovery_rest]
  exact ⟨rfl, rfl, rfl, rfl, rfl, fun _ => rfl, fun _ => Iff.rfl⟩

/-- R55: what a commit has written stands in the frame opened behind it. -/
theorem openFrame_keepsCommit {s : State} (ha : s.power.state = .active) :
    KeepsCommit s.applyParams.applyPoints.applyCommit s.openFrame := by
  obtain ⟨_, power, _⟩ := opening_counts ha
  have judged := keepsCommit_of_judges (refreshAllInhibits_judges s.applyParams.applyPoints.applyCommit)
  exact (judged.trans (openNumber_keepsCommit _)).trans
    (keepsCommit_of_runs (startSlot_runs (opening s) 0 (by rw [power, ha])))

/-- R174, R178: the frame opened by a frame start that finds a commit in APPLYING: the commit has ended APPLIED, and the
records, the profile and the parameters are those that its items, in stage order, have left. -/
theorem openFrame_endsCommit {s : State} (ha : s.power.state = .active) (he : s.engine.state = .applying) :
    ∃ u, LeavesUpdate s u ∧
      KeepsCommit ((s.engine.stage.foldl (fun t x => t.applyItem x) u).endTransaction .applied none none)
        s.openFrame := by
  have params : LeavesUpdate s s.applyParams := by
    rw [applyParams_rest]
    exact ⟨rfl, rfl⟩
  have points := params.trans (leavesUpdate_of_applies (applyPoints_applies s.applyParams))
  have ended := applyCommit_applying (s := s.applyParams.applyPoints) (by rw [points.engine, he])
  rw [points.engine] at ended
  exact ⟨_, points, ended ▸ openFrame_keepsCommit ha⟩

/-- The pins do not show in what a commit has written. -/
theorem event_keepsCommit (f : State → State) {s : State} (h : s.vsup = true) :
    ∃ t, event f s = .next t ∧ KeepsCommit (f s) t :=
  ⟨_, event_of_supply f s h, drive_store _, drive_engine _, drive_seq _, congrArg (·.active) (drive_clock _),
    congrArg (·.set.update) (drive_attention _),
    fun id => congrArg Point.liveDefinition? (point_of_table _ _ (congrArg (·.points) (drive_table _)) id),
    fun id => by rw [point_of_table _ _ (congrArg (·.points) (drive_table _)) id]⟩

/-- A frame start in TAIL opens the next frame behind the cut of the tail item in flight. -/
theorem frameTimerExpired_tail {s : State} (ha : s.power.state = .active) (ht : s.clock.phase = .tail) :
    s.frameTimerExpired = s.cutTail.openFrame := by
  have ended : s.endFrame = s.cutTail := by simp only [State.endFrame, ht]
  rw [← ended, ← frameStart_active (by rw [ended, cutTail_rest]; exact ha)]
  simp only [State.frameTimerExpired, ht]

/-- Settles O33: the cut of the tail item leaves the commit alone, its items are applied in stage order, and the rest of
the frame start keeps what they have written and the outcome. -/
theorem frameStartEndsTheCommit : Obligations.FrameStartEndsTheCommit := by
  intro s hv ha ht he
  have cut : LeavesUpdate s s.cutTail := by
    rw [cutTail_rest]
    exact ⟨rfl, rfl⟩
  obtain ⟨u, before, kept⟩ := openFrame_endsCommit (s := s.cutTail) (by rw [cutTail_rest]; exact ha)
    (by rw [cut.engine, he])
  obtain ⟨t, starts, pinned⟩ := event_keepsCommit State.frameTimerExpired hv
  rw [frameTimerExpired_tail ha ht] at pinned
  rw [cut.engine] at kept
  replace kept := kept.trans pinned
  refine ⟨t, starts, ?_⟩
  have applied : LeavesUpdate s (s.engine.stage.foldl (fun t x => t.applyItem x) u) :=
    (cut.trans before).trans (leavesUpdate_foldl _ applyItem_leavesUpdate _ u)
  have engine : t.engine =
      { s.engine with
        state := .idle, stage := [], version := none, commitTag := none
        outcome := some
          { outcome := .applied, version := s.engine.version.getD 0, itemIndex := none, reason := none } } := by
    rw [kept.engine, endTransaction_eq, applied.engine]
  refine ⟨congrArg (·.state) engine, congrArg (·.stage) engine, congrArg (·.version) engine,
    congrArg (·.outcome) engine, kept.update, ?bank, fun id d only hid => ?point, fun id only => ?remove,
    fun p only => ?profile, fun f only => ?frame⟩
  case bank => exact congrArg (·.activeBank) (kept.store.trans applied.store)
  all_goals rw [only] at kept
  case point => exact (kept.definitions id).trans (applyPointItem_liveDefinition u d hid)
  case remove => exact (kept.vacant id).2 (applyItem_remove u id)
  case profile => exact congrArg (·.profile) kept.seq
  case frame => exact kept.active

/-! ### UOPEN (R165) -/

section Uopen

variable {s : State} {b : List Byte}

/-- R187: a part that is not in ACTIVE answers UOPEN STARTING: while it starts or wakes the power state does, and in
SETTLING the owner. -/
theorem exec_uopen_starting (hs : s.arrives) (hd : s.power.state ≠ .deepSleep) (hf : s.power.state ≠ .sleepFrame)
    (ha : s.power.state ≠ .active) : exec (.uopen b) s = .next (s.answered codeUopen b.length .starting []) := by
  have starts (hp : s.power.state = .loading ∨ s.power.state = .discovering ∨ s.power.state = .waking) :
      exec (.uopen b) s = .next (s.answered codeUopen b.length .starting []) :=
    request_starting codeUopen b true (takeUopen b) s hs (gate_starting hp (by decide) (by decide))
  cases hp : s.power.state with
  | loading => exact starts (.inl hp)
  | discovering => exact starts (.inr (.inl hp))
  | waking => exact starts (.inr (.inr hp))
  | settling =>
    exact request_refuses codeUopen b (takeUopen b) s .starting ⟨hs, by rw [hp]; rfl⟩ (if_pos ha)
  | active => exact absurd hp ha
  | deepSleep => exact absurd hp hd
  | sleepFrame => exact absurd hp hf

theorem takeUopen_badArgument (ha : s.power.state = .active) (hb : b.length ≠ 4) :
    takeUopen b s = refuse .badArgument s := by
  rw [takeUopen, if_neg (not_not_intro ha), if_pos hb]

theorem takeUopen_state (ha : s.power.state = .active) (hb : b.length = 4) (hi : s.engine.state ≠ .idle) :
    takeUopen b s = refuse .state s := by
  rw [takeUopen, if_neg (not_not_intro ha), if_neg (not_not_intro hb), if_pos hi]

/-- In ACTIVE with no transaction open the key, the tamper latch and the version carried decide. -/
theorem takeUopen_idle (ha : s.power.state = .active) (hb : b.length = 4) (hi : s.engine.state = .idle) :
    takeUopen b s =
      if s.engine.key = none then refuse .noKey s
      else if s.engine.tamperLatch = true then refuse .tampered s
      else if (word32 b 0).toNat ≤ s.store.activeVersion.toNat then refuse .rollback s
      else (s.openTransaction (word32 b 0), .now .done []) := by
  rw [takeUopen, if_neg (not_not_intro ha), if_neg (not_not_intro hb), if_neg (not_not_intro hi)]
  simp only [Option.isNone_iff_eq_none]

end Uopen

/-- Settles O53: outside ACTIVE the part answers STARTING; in ACTIVE each clause is one of the owner's answers, whose
tests do not see the port. -/
theorem uopenOpensOrIsRefused : Obligations.UopenOpensOrIsRefused := by
  intro b s hs hd hf refused v
  have hands (ha : s.power.state = .active) : s.hands codeUopen := ⟨hs, by rw [ha]; rfl⟩
  have refuses {a : AnswerCode} (ha : s.power.state = .active)
      (h : takeUopen b (received b.length s) = refuse a (received b.length s)) : refused a :=
    request_refuses codeUopen b (takeUopen b) s a (hands ha) h
  have idle (ha : s.power.state = .active) (hb : b.length = 4) (hi : s.engine.state = .idle) :=
    takeUopen_idle (s := received b.length s) ha hb hi
  refine ⟨exec_uopen_starting hs hd hf, fun ha hb => refuses ha (takeUopen_badArgument ha hb),
    fun ha hb hi => refuses ha (takeUopen_state ha hb hi), fun ha hb hi hk => ?noKey, fun ha hb hi hk hl => ?tampered,
    fun ha hb hi hk hl hr => ?rollback, fun ha hb hi hk hl hr => ?opened⟩
  case noKey => exact refuses ha ((idle ha hb hi).trans (if_pos hk))
  case tampered => exact refuses ha ((idle ha hb hi).trans ((if_neg hk).trans (if_pos hl)))
  all_goals have unlatched : ¬ s.engine.tamperLatch = true := by rw [hl]; decide
  case rollback => exact refuses ha ((idle ha hb hi).trans ((if_neg hk).trans ((if_neg unlatched).trans (if_pos hr))))
  case opened =>
    have owner := (idle ha hb hi).trans ((if_neg hk).trans ((if_neg unlatched).trans (if_neg (Nat.not_le.2 hr))))
    rw [← hb]
    exact request_answers codeUopen b (takeUopen b) s (s.openTransaction v) .done [] (hands ha) owner

/-! ### USTAGE (R166, R167) -/

section Ustage

variable {s : State} {b : List Byte} {x : Item} {i : Nat} {stage : List Item}

/-- R166: an item of the same target is replaced in its place. -/
theorem placeItem_replaces (h : stage.findIdx? x.sameTarget = some i) :
    placeItem x stage = stage.set i x ∧ itemIndex x stage = i + 1 := by
  simp only [placeItem, itemIndex, h, and_self]

/-- R166: an item of a new target is appended. -/
theorem placeItem_appends (h : stage.findIdx? x.sameTarget = none) :
    placeItem x stage = stage ++ [x] ∧ itemIndex x stage = stage.length + 1 := by
  simp only [placeItem, itemIndex, h, and_self]

/-- R167: the stage has room for an item: one of its target is staged, or fewer than 32 are. -/
theorem takeUstage_places (hs : s.engine.state = .staging) (hx : Item.decode b = some x) (hw : x.wellFormed = true)
    (hp : s.itemWaits x = false) (room : s.engine.stage.any x.sameTarget = true ∨ s.engine.stage.length < 32) :
    takeUstage b s =
      ({ s with engine := { s.engine with stage := placeItem x s.engine.stage } },
        .now .done (le8 (itemIndex x s.engine.stage) ++ le8 (placeItem x s.engine.stage).length)) := by
  have notFull : ¬ (32 ≤ s.engine.stage.length ∧ s.engine.stage.any x.sameTarget = false) := by
    rintro ⟨full, fresh⟩
    rcases room with same | below
    · rw [fresh] at same
      exact absurd same (by decide)
    · omega
  simp only [takeUstage, hs, hx, hw, hp, notFull, ne_eq, not_true_eq_false, Bool.not_true, Bool.false_eq_true, if_false]

end Ustage

/-- Settles O54: the stage has room for the item, which goes to the place of its target. -/
theorem ustagePlacesTheItem : Obligations.UstagePlacesTheItem := by
  intro b x s hh hlen hs hx hw hp
  have placed (room : s.engine.stage.any x.sameTarget = true ∨ s.engine.stage.length < 32) :
      exec (.ustage b) s =
        .next (State.answered codeUstage b.length .done
          (le8 (itemIndex x s.engine.stage) ++ le8 (placeItem x s.engine.stage).length)
          { s with engine := { s.engine with stage := placeItem x s.engine.stage } }) := by
    show request codeUstage b (ustageLengthOk b) (takeUstage b) s = _
    rw [hlen]
    have waits : (received b.length s).itemWaits x = false := by rw [← hp]; cases x <;> rfl
    exact request_answers codeUstage b (takeUstage b) s
      { s with engine := { s.engine with stage := placeItem x s.engine.stage } } .done _ hh
      (takeUstage_places (s := received b.length s) hs hx hw waits room)
  refine ⟨fun i found => ?replaced, fun missing below => ?appended⟩
  case replaced =>
    have same : s.engine.stage.any x.sameTarget = true := by
      rw [← List.findIdx?_isSome, found]
      rfl
    obtain ⟨stage, index⟩ := placeItem_replaces found
    have done := placed (.inl same)
    rw [stage, index, List.length_set] at done
    exact done
  case appended =>
    obtain ⟨stage, index⟩ := placeItem_appends missing
    have done := placed (.inr below)
    rw [stage, index, List.length_append] at done
    exact done

/-! ### UCOMMIT and UABANDON (R168, R179) -/

section Commit

variable {s : State} {b : List Byte}

theorem takeUcommit_commits (hs : s.engine.state = .staging) (hn : s.engine.stage ≠ []) (hb : b.length = 32) :
    takeUcommit b s =
      ({ s with engine := { s.engine with state := .verifying, commitTag := some b } }, .now .accepted []) := by
  have staged : ¬ s.engine.stage.isEmpty = true := by rwa [List.isEmpty_iff]
  simp only [takeUcommit, hs]
  rw [commitStaging, if_neg staged, if_neg (not_not_intro hb)]

theorem takeUabandon_abandons (hs : s.engine.state = .staging ∨ s.engine.state = .verifying) :
    takeUabandon s = (s.endTransaction .abandoned none none, .now .done []) := by
  rcases hs with hs | hs <;> simp only [takeUabandon, hs]

end Commit

/-- Settles O55: both owners take the open transaction, and neither looks at the port. -/
theorem commitAndAbandon : Obligations.CommitAndAbandon := by
  intro s
  refine ⟨fun b hh hs hn hb => ?commit, fun hh hs => ?abandon⟩
  case commit =>
    rw [← hb]
    exact request_answers codeUcommit b (takeUcommit b) s
      { s with engine := { s.engine with state := .verifying, commitTag := some b } } .accepted [] hh
      (takeUcommit_commits (s := received b.length s) hs hn hb)
  case abandon =>
    exact request_answers codeUabandon [] takeUabandon s (s.endTransaction .abandoned none none) .done [] hh
      (takeUabandon_abandons (s := received 0 s) hs)

/-! ### The completion of a verification (R168, R170, R171, R173) -/

section Verification

variable {s : State}

/-- R170: the tag that a commit is to carry is that of its message under the live key. -/
theorem commitTagMatches_iff (s : State) :
    s.commitTagMatches = true ↔
      s.engine.commitTag = some (hmacSha256 s.tagKey (commitMessage (s.engine.version.getD 0) s.engine.stage)) := by
  rw [State.commitTagMatches, beq_iff_eq]

theorem verified_tagBad (hs : s.engine.state = .verifying) (ht : ¬ s.commitTagMatches = true) :
    s.verified = s.endTransaction .tagBad none none := by
  simp only [State.verified, hs, ht, Bool.not_eq_true', if_true]

theorem verified_invalid {reason : InvalidReason} {index : Option Nat} (hs : s.engine.state = .verifying)
    (ht : s.commitTagMatches = true) (hc : s.validate = some (reason, index)) :
    s.verified = s.endTransaction .invalid index (some reason) := by
  simp only [State.verified, hs, ht, hc, Bool.not_true, Bool.false_eq_true, if_false]

theorem verified_writes (hs : s.engine.state = .verifying) (ht : s.commitTagMatches = true)
    (hc : s.validate = none) : s.verified = s.startWriting := by
  simp only [State.verified, hs, ht, hc, Bool.not_true, Bool.false_eq_true, if_false]

/-- R152: with nothing in flight a bank write request is started at once. -/
theorem requestBankWrite_free (r : BankRequest) (h : s.store.inFlight = .none) :
    s.requestBankWrite r = s.startBankWrite r := by
  simp only [State.requestBankWrite, h]

/-- R153: the start of a bank write leaves the active bank. -/
theorem startBankWrite_activeBank (s : State) (r : BankRequest) :
    (s.startBankWrite r).store.activeBank = s.store.activeBank := by
  unfold State.startBankWrite
  cases s.writeTarget <;> rfl

/-- R173: a commit in WRITING, whose bank write is not yet requested. -/
def inWriting (s : State) : State := { s with engine := { s.engine with state := .writing, commitTag := none } }

theorem startWriting_eq (s : State) :
    s.startWriting =
      (inWriting s).requestBankWrite { version := s.engine.version.getD 0, image := s.resultingImage } := rfl

/-- R173: the entry to WRITING with nothing in flight: the bank write of the resulting image is begun at its header. -/
theorem startWriting_begins (h : s.store.inFlight = .none) :
    ∃ w, s.startWriting.store.inFlight = .bank w ∧ w.target = s.writeTarget ∧ w.image = s.resultingImage ∧
      w.version = s.engine.version.getD 0 ∧ w.unit = .header ∧ s.startWriting.bankState w.target = .interrupted ∧
      s.startWriting.store.activeBank = s.store.activeBank ∧ s.startWriting.engine.state = .writing ∧
      s.startWriting.table = s.table := by
  rw [startWriting_eq, requestBankWrite_free (s := inWriting s) _ h]
  obtain ⟨inFlight, _, interrupted, _⟩ :=
    startBankWrite_starts (inWriting s) { version := s.engine.version.getD 0, image := s.resultingImage }
  exact ⟨_, inFlight, rfl, rfl, rfl, rfl, interrupted, startBankWrite_activeBank _ _,
    congrArg (·.state) (startBankWrite_engine _ _), startBankWrite_table _ _⟩

end Verification

/-- Settles O56: the tag decides first, then the checks; a commit that passes both enters WRITING. -/
theorem verificationEnds : Obligations.VerificationEnds := by
  intro s hv hs good ended
  have tag : s.commitTagMatches = true ↔ good := commitTagMatches_iff s
  have completes {t : State} (h : s.verified = t) : exec .verifyComplete s = .next t.drive := by
    rw [← h]
    exact event_of_supply State.verified s hv
  refine ⟨fun bad => ?tagBad, fun reason index hg hc => ?invalid, fun hg hc hi => ?writing⟩
  case tagBad => exact completes (verified_tagBad hs (mt tag.1 bad))
  case invalid => exact completes (verified_invalid hs (tag.2 hg) hc)
  case writing =>
    obtain ⟨w, inFlight, target, image, version, unit, interrupted, active, writing, table⟩ :=
      startWriting_begins hi
    exact ⟨_, w, completes (verified_writes hs (tag.2 hg) hc), writing, inFlight, target, image, version, unit,
      interrupted, active, table⟩

end Sys2Proof.Proofs

/-! The frames of the host port and what the port itself answers (R130, R143, R185 to R189, R192, 11.1): transactions
decoded from their bytes, frames that fail their checks, bodies of another length, read transactions, and MASK. -/

namespace Sys2Proof.Proofs

open Sys2Proof.Machine Sys2Proof.Laws

/-! ### Transactions and the commands they spell (R185, R186, 11.1) -/

/-- R186: the frame checks take a request frame apart again. -/
theorem checkFrame_requestFrame (code : Byte) {body : List Byte} (h : body.length ≤ 250) :
    checkFrame (requestFrame code body) = .good code body := by
  have length : (BitVec.ofNat 8 body.length).toNat = body.length := Nat.mod_eq_of_lt (by omega)
  have fields : requestFrame code body =
      code :: BitVec.ofNat 8 body.length ::
        (body ++ leWord16 (crc16 ([code, BitVec.ofNat 8 body.length] ++ body))) := rfl
  have crcLength (w : Word16) : (leWord16 w).length = 2 := rfl
  simp only [fields, checkFrame, length, List.length_append, crcLength, bne_self_eq_false,
    decide_eq_false (Nat.not_lt.2 h), Bool.or_false, Bool.false_eq_true, if_false, List.take_left, List.drop_left, if_true]

/-- R185, R186: a transaction with a good frame spells what its code names. -/
theorem decodeTransaction_good {first code : Byte} {rest body : List Byte} (nonzero : first ≠ 0)
    (good : checkFrame (first :: rest) = .good code body) :
    decodeTransaction (first :: rest) = some (requestOf code body) := by
  simp only [decodeTransaction, nonzero, if_false, good]

theorem decodeTransaction_requestFrame {code : Byte} {body : List Byte} (nonzero : code ≠ 0)
    (h : body.length ≤ 250) : decodeTransaction (requestFrame code body) = some (requestOf code body) :=
  decodeTransaction_good nonzero (checkFrame_requestFrame code h)

/-- R185: a transaction that clocks in zeros is a read. -/
theorem decodeTransaction_zeros {n : Nat} (h : 1 ≤ n) :
    decodeTransaction (List.replicate n 0) = some (.readTransaction n) := by
  obtain ⟨k, rfl⟩ := Nat.exists_eq_add_of_le' h
  simp only [List.replicate_succ, decodeTransaction, if_true, List.length_cons, List.length_replicate]

/-- R186: a bad transaction begins with a code, and its frame fails its checks. -/
theorem badTransaction_iff (frame : List Byte) :
    badTransaction frame = true ↔ ∃ code rest, frame = code :: rest ∧ code ≠ 0 ∧ checkFrame frame = .bad := by
  cases frame with
  | nil => simp [badTransaction]
  | cons code rest => simp [badTransaction]

theorem decodeTransaction_bad {frame : List Byte} (h : badTransaction frame = true) :
    decodeTransaction frame = some (.frameError frame) := by
  obtain ⟨code, rest, rfl, hc, bad⟩ := (badTransaction_iff frame).1 h
  simp only [decodeTransaction, hc, if_false, bad]

/-- 11.1: the code of a request names it. -/
theorem requestOf_of_request {i : Instr} {code : Byte} {body : List Byte} (h : i.request? = some (code, body)) :
    requestOf code body = i ∧ code ≠ 0 := by
  cases i <;> cases h <;> exact ⟨rfl, by decide⟩

/-- R186, order 3: a code outside the table names no request. -/
theorem requestOf_unnamed {code : Byte} (body : List Byte) (h : code ∉ requestCodes) :
    requestOf code body = .unknownRequest code body := by
  have unnamed {n : Nat} (hn : code.toNat = n) (named : BitVec.ofNat 8 n ∈ requestCodes) : False := by
    rw [← hn, BitVec.ofNat_toNat, BitVec.setWidth_eq] at named
    exact h named
  unfold requestOf
  split
  case h_35 => rfl
  all_goals exact (unnamed ‹_› (by decide)).elim

/-- Settles O10: a request and an unknown request pass the frame checks with their code and body; the first byte tells a
read apart, and the checks a bad frame. -/
theorem transactionDecodesToItsCommand : Obligations.TransactionDecodesToItsCommand := by
  intro i bytes wf encodes
  cases hr : i.request? with
  | some r =>
    obtain ⟨code, body⟩ := r
    obtain ⟨names, nonzero⟩ := requestOf_of_request hr
    simp only [Instr.wellFormed, Instr.encode, hr, decide_eq_true_eq, Option.some.injEq] at wf encodes
    rw [← encodes, decodeTransaction_requestFrame nonzero wf, names]
  | none =>
    cases i
    case readTransaction n =>
      cases encodes
      exact decodeTransaction_zeros (of_decide_eq_true wf)
    case frameError frame =>
      cases encodes
      exact decodeTransaction_bad wf
    case unknownRequest code body =>
      cases encodes
      simp only [Instr.wellFormed, Instr.request?, Bool.and_eq_true, bne_iff_ne, Bool.not_eq_true', decide_eq_true_eq,
        List.contains_eq_mem, decide_eq_false_iff_not] at wf
      obtain ⟨⟨nonzero, unnamed⟩, short⟩ := wf
      rw [decodeTransaction_requestFrame nonzero short, requestOf_unnamed body unnamed]
    all_goals cases hr
    all_goals cases encodes

/-! ### Bodies of another length (R187) -/

/-- R187, 11.4: the requests without operands take the empty body alone. -/
theorem exec_eq_request_bodiless {c : Instr} {code : Byte} {body : List Byte} (h : c.request? = some (code, body))
    (bodiless : code ∈ [codeChanges, codeQfrm, codeDiscov, codeQchain, codeClose, codeOpen, codeTrip, codeClrlock,
      codeQcont, codeSleep, codeWake, codeQpower, codeReset, codeUabandon, codeQstore, codeFinlock, codeStatus,
      codeIdent]) :
    ∃ owner, ∀ s, exec c s = request code body (body.length == 0) owner s := by
  cases c <;> cases h
  case changes | qfrm | discov | qchain | close | openRequest | trip | clrlock | qcont => exact ⟨_, fun _ => rfl⟩
  case sleep | wake | qpower | reset | uabandon | qstore | finlock | status | ident => exact ⟨_, fun _ => rfl⟩
  all_goals exact absurd bodiless (by decide)

/-- Settles O13: the length test stands before the owner. -/
theorem bodyOfAnotherLengthIsRefused : Obligations.BodyOfAnotherLengthIsRefused := by
  intro c code body s hc hh bodiless nonempty
  obtain ⟨owner, path⟩ := exec_eq_request_bodiless hc bodiless
  have long : (body.length == 0) = false := beq_false_of_ne (mt List.length_eq_zero_iff.1 nonempty)
  rw [path, long]
  exact request_badLength code body owner s hh

/-! ### Frames that fail their checks (R143, R186) -/

/-- R147, R148: a write transaction that arrives is not discarded at its end. -/
theorem ensureBegun_endDiscarded {s : State} (h : s.arrives) : s.ensureBegun.endDiscarded = false := by
  obtain ⟨_, ⟨begun, free⟩ | ⟨whole, free⟩⟩ := h
  · simp [State.ensureBegun, State.endDiscarded, begun, free]
  · have begins : s.ensureBegun = s.beginWrite := by simp only [State.ensureBegun, whole]
    rw [begins]
    by_cases asleep : s.power.state = .deepSleep ∨ s.power.state = .sleepFrame
    · rw [beginWrite_asleep free asleep, State.endDiscarded, free]
      rfl
    · obtain ⟨hd, hf⟩ := not_or.1 asleep
      rw [beginWrite_awake free hd hf, State.endDiscarded, free]
      rfl

/-- R185: a write transaction of any length that arrives shifts out one 0xFF for each of its bytes. -/
theorem endWrite_of_any_length (n : Nat) (act : State → State) {s : State} (h : s.arrives) :
    s.endWrite n act = act ((received 0 s).shiftOut (List.replicate n 0xFF)) := by
  have four := endWrite_of_arrives 0 (fun t => act (t.shiftOut (List.replicate n 0xFF))) s h
  simp only [State.endWrite, ensureBegun_endDiscarded h, Bool.false_eq_true, if_false] at four ⊢
  exact four

theorem portAnswer_awake {s : State} (code : Byte) (a : AnswerCode)
    (h : ¬(s.power.state = .deepSleep ∨ s.power.state = .sleepFrame)) :
    s.portAnswer code a = s.placeAnswer code a [] := by
  unfold State.portAnswer
  split
  case h_1 asleep => exact absurd (.inl asleep) h
  case h_2 asleep => exact absurd (.inr asleep) h
  all_goals rfl

theorem portAnswer_asleep {s : State} (code : Byte) (a : AnswerCode)
    (h : s.power.state = .deepSleep ∨ s.power.state = .sleepFrame) : s.portAnswer code a = s := by
  rcases h with h | h <;> simp only [State.portAnswer, h]

/-- R143, R186: the end of a write transaction that the port answers itself. -/
theorem endWrite_portAnswer (n : Nat) (code : Byte) (a : AnswerCode) {s : State} (ha : s.arrives) :
    let t : State := { s with port := { s.port with writeTx := .none, hsdo := List.replicate n 0xFF } }
    (¬(s.power.state = .deepSleep ∨ s.power.state = .sleepFrame) →
      s.endWrite n (fun u => u.portAnswer code a) = t.setSlot (.holding (answerFrame code a []))) ∧
    ((s.power.state = .deepSleep ∨ s.power.state = .sleepFrame) →
      s.endWrite n (fun u => u.portAnswer code a) = t) := by
  have ended := endWrite_of_any_length n (fun u => u.portAnswer code a) ha
  refine ⟨fun awake => ?_, fun asleep => ?_⟩
  · rw [ended, portAnswer_awake (s := (received 0 s).shiftOut _) code a awake]
    rfl
  · rw [ended, portAnswer_asleep (s := (received 0 s).shiftOut _) code a asleep, received_of_asleep 0 s asleep]
    rfl

theorem badFrame_of_badTransaction {frame : List Byte} {code : Byte} (s : State) (bad : badTransaction frame = true)
    (head : frame.head? = some code) :
    s.badFrame frame = s.endWrite frame.length (fun t => t.portAnswer code .frameError) := by
  obtain ⟨first, rest, rfl, nonzero, fails⟩ := (badTransaction_iff frame).1 bad
  cases head
  exact if_pos ⟨nonzero, fails⟩

theorem unknownCode_of_unnamed {code : Byte} (body : List Byte) (s : State) (nonzero : code ≠ 0)
    (unnamed : code ∉ requestCodes) :
    s.unknownCode code body = s.endWrite (4 + body.length) (fun t => t.portAnswer code .unknownRequest) :=
  if_neg (not_or.2 ⟨nonzero, by rwa [List.contains_iff_mem]⟩)

/-- Settles O17: both kinds of frame end a write transaction that the port answers itself. -/
theorem frameChecksAnswer : Obligations.FrameChecksAnswer := by
  intro s ha asleep
  refine ⟨fun frame code bad head => ?frameError, fun code body nonzero unnamed => ?unknownRequest⟩
  case frameError =>
    obtain ⟨awakeEnd, asleepEnd⟩ := endWrite_portAnswer frame.length code .frameError ha
    have taken : exec (.frameError frame) s = .next (s.badFrame frame).drive :=
      event_of_supply (fun t => t.badFrame frame) s ha.1
    rw [taken, badFrame_of_badTransaction s bad head]
    exact ⟨fun h => by rw [awakeEnd h], fun h => by rw [asleepEnd h]⟩
  case unknownRequest =>
    obtain ⟨awakeEnd, asleepEnd⟩ := endWrite_portAnswer (4 + body.length) code .unknownRequest ha
    have taken : exec (.unknownRequest code body) s = .next (s.unknownCode code body).drive :=
      event_of_supply (fun t => t.unknownCode code body) s ha.1
    rw [taken, unknownCode_of_unnamed body s nonzero unnamed]
    exact ⟨fun h => by rw [awakeEnd h]; rfl, fun h => by rw [asleepEnd h]; rfl⟩

/-! ### MASK (R192) -/

/-- 11.2: a set of causes carries every bit of its byte. -/
theorem causes_toByte_ofByte (b : Byte) : (Causes.ofByte b).toByte = b := by
  have small := b.isLt
  apply BitVec.eq_of_toNat_eq
  simp only [Causes.toByte, Causes.ofByte, flagByte, BitVec.toNat_ofNat, BitVec.getLsbD, Nat.toNat_testBit]
  omega

/-- R192: the mask becomes the set carried, and the answer echoes it beside the attention set. -/
theorem takeMask_eq (m : Byte) (s : State) :
    takeMask [m] s = (s.setMask (Causes.ofByte m), .now .done [m, s.attention.set.toByte]) := by
  simp only [takeMask, List.getD_cons_zero, causes_toByte_ofByte]

/-- R191, R192: the answer to a MASK leaves ATTN at the level of the mask it set. -/
theorem answered_attn {s : State} (code : Byte) (n : Nat) (a : AnswerCode) (reply : List Byte) (hv : s.vsup = true)
    (hen : s.power.state.hen = true) :
    (s.answered code n a reply).pins.attn = s.attention.set.meets s.attention.mask := by
  have attn := (drive_levels (s := (s.transacted n).setSlot (.holding (answerFrame code a reply))) hv).2
  rw [State.answered, attn]
  exact (congrArg (· && s.attention.set.meets s.attention.mask) hen).trans (Bool.true_and _)

/-- Settles O59: the power state and the length decide whether the owner replaces the mask. -/
theorem maskReplacesTheMask : Obligations.MaskReplacesTheMask := by
  intro m body s ha mask handed starting
  have hands (h : handed) : s.hands codeMask := ⟨ha, by rcases h with h | h <;> rw [h] <;> rfl⟩
  refine ⟨fun h => ⟨?replaced, ?attn⟩, fun h other => ?refused, fun h => ?starts⟩
  case replaced =>
    exact request_answers codeMask [m] (takeMask [m]) s (s.setMask mask) .done _ (hands h)
      (takeMask_eq m (received 1 s))
  case attn =>
    have hen : s.power.state.hen = true := by rcases h with h | h <;> rw [h] <;> rfl
    exact answered_attn codeMask 1 .done _ ha.1 hen
  case refused =>
    have long : (body.length == 1) = false := beq_false_of_ne other
    have path : exec (.mask body) s = request codeMask body (body.length == 1) (takeMask body) s := rfl
    rw [path, long]
    exact request_badLength codeMask body (takeMask body) s (hands h)
  case starts =>
    exact request_starting codeMask body _ (takeMask body) s ha (gate_starting h (by decide) (by decide))

/-! ### Read transactions (R143, R148, R185, R189) -/

section Read

variable {s : State}

/-- R185: with no RESET pending a read shifts out what it returns and does nothing else. -/
theorem readOut_of_not_pending {n : Nat} (hn : 0 < n) (h : s.power.reset ≠ .pending) :
    s.readOut n = s.shiftOut (readBytesOut n s.returned) := by
  have whole : s.returnsReset n = false := by
    rw [State.returnsReset, beq_false_of_ne h, Bool.false_and]
  simp only [State.readOut, Nat.ne_of_gt hn, whole, Bool.false_eq_true, if_false]

theorem returned_asleep (h : s.power.state = .deepSleep ∨ s.power.state = .sleepFrame) : s.returned = asleepMarker :=
  if_pos h

theorem returned_held (awake : ¬(s.power.state = .deepSleep ∨ s.power.state = .sleepFrame))
    (h : s.power.reset = .held) : s.returned = notReadyMarker := by
  rw [State.returned, if_neg awake, if_pos h]

theorem returned_holding {f : List Byte} (awake : ¬(s.power.state = .deepSleep ∨ s.power.state = .sleepFrame))
    (h : s.power.reset ≠ .held) (hf : s.port.slot = .holding f) : s.returned = f := by
  rw [State.returned, if_neg awake, if_neg h, hf]

theorem returned_notReady (awake : ¬(s.power.state = .deepSleep ∨ s.power.state = .sleepFrame))
    (h : s.power.reset ≠ .held) (hf : ∀ f, s.port.slot ≠ .holding f) : s.returned = notReadyMarker := by
  rw [State.returned, if_neg awake, if_neg h]
  cases hs : s.port.slot with
  | holding f => exact absurd hs (hf f)
  | empty | waiting => rfl

end Read

/-- Settles O15: sleep, then a held RESET, then the slot pick what a read returns. -/
theorem readReturnsTheSlotOrAMarker : Obligations.ReadReturnsTheSlotOrAMarker := by
  intro n s hv hn hp out
  have reads {bytes : List Byte} (h : s.returned = bytes) : exec (.readTransaction n) s = .next (out bytes) := by
    have taken : exec (.readTransaction n) s = .next (s.readOut n).drive := event_of_supply (fun t => t.readOut n) s hv
    rw [taken, readOut_of_not_pending hn hp, h]
    rfl
  refine ⟨fun asleep => reads (returned_asleep asleep),
    fun hd hf held => reads (returned_held (not_or.2 ⟨hd, hf⟩) held), fun hd hf free => ?_⟩
  have awake := not_or.2 ⟨hd, hf⟩
  have unheld : s.power.reset ≠ .held := by rw [free]; decide
  exact ⟨fun f hs => reads (returned_holding awake unheld hs), fun hs => reads (returned_notReady awake unheld hs)⟩

end Sys2Proof.Proofs

/-! The queue and the bank memories, part 1 (11.7, R153): what a command does to the queue of waiting commands and to
the form of the two bank memories, from the Store's own writes to the running of frames. -/

namespace Sys2Proof.Proofs

open Sys2Proof.Machine Sys2Proof.Laws

/-! ### The step (log 2, log 5) -/

theorem step_front {s : State} {c : Instr} {rest : List Instr} (h : s.pending = c :: rest) :
    step s = exec c { s with pending := rest } := by
  simp only [step, h]

/-- Settles O1: a step looks at the queue alone to choose what runs. -/
theorem stepRunsTheFrontCommand : Obligations.StepRunsTheFrontCommand := fun _ _ _ => step_front

/-! ### What every command conserves -/

/-- `t` holds the queue of `s`, and bank memories in canonical form when those of `s` are. -/
structure Conserves (s t : State) : Prop where
  queue : t.pending = s.pending
  banks : s.banksCanonical → t.banksCanonical

theorem Conserves.refl (s : State) : Conserves s s := ⟨rfl, id⟩

theorem Conserves.trans {s t u : State} (h : Conserves s t) (k : Conserves t u) : Conserves s u :=
  ⟨k.queue.trans h.queue, k.banks ∘ h.banks⟩

/-- An operation that writes neither the queue nor a bank memory; its equations are mostly definitional. -/
theorem Conserves.same {s t : State} (queue : t.pending = s.pending) (bank0 : t.store.bank0 = s.store.bank0)
    (bank1 : t.store.bank1 = s.store.bank1) : Conserves s t where
  queue := queue
  banks := fun ⟨wf0, wf1⟩ => ⟨bank0 ▸ wf0, bank1 ▸ wf1⟩

/-- Such an operation behind one that conserves. -/
theorem Conserves.after {s t u : State} (h : Conserves s t) (queue : u.pending = t.pending)
    (bank0 : u.store.bank0 = t.store.bank0) (bank1 : u.store.bank1 = t.store.bank1) : Conserves s u :=
  h.trans (.same queue bank0 bank1)

/-- Such an operation before one that conserves. -/
theorem Conserves.before {s t u : State} (h : Conserves t u) (queue : t.pending = s.pending)
    (bank0 : t.store.bank0 = s.store.bank0) (bank1 : t.store.bank1 = s.store.bank1) : Conserves s u :=
  .trans (.same queue bank0 bank1) h

theorem conserves_of_store {s t : State} (hq : t.pending = s.pending) (hs : t.store = s.store) : Conserves s t :=
  .same hq (by rw [hs]) (by rw [hs])

theorem conserves_of_judges {s t : State} (h : OnlyJudges s t) : Conserves s t := conserves_of_store h.pending h.store

theorem conserves_of_runs {s t : State} (h : OnlyRuns s t) : Conserves s t := conserves_of_store h.pending h.store

theorem conserves_of_applies {s t : State} (h : OnlyApplies s t) : Conserves s t := conserves_of_store h.pending h.store

/-- The Store's lemmas speak of the memories by bank. -/
theorem conserves_of_memories {s t : State} (hq : t.pending = s.pending)
    (hb : (∀ b, (s.bank b).wf = true) → ∀ b, (t.bank b).wf = true) : Conserves s t where
  queue := hq
  banks := fun h => (banks_wf_iff t).1 (hb ((banks_wf_iff s).2 h))

theorem foldl_conserves {α : Type} (f : State → α → State) (h : ∀ s x, Conserves s (f s x)) (xs : List α)
    (s : State) : Conserves s (xs.foldl f s) := by
  induction xs generalizing s with
  | nil => exact .refl s
  | cons x rest ih => exact (h s x).trans (ih _)

/-! ### The Store's writes (R152 to R156, R161) -/

theorem setBank_conserves (s : State) (b : BankId) {m : Memory} (hm : (s.bank b).wf = true → m.wf = true) :
    Conserves s (s.setBank b m) :=
  conserves_of_memories (setBank_pending s b m) fun h => setBank_banks_wf s b m h (hm (h b))

theorem setBankState_conserves (s : State) (b : BankId) (x : BankState) : Conserves s (s.setBankState b x) := by
  cases b <;> exact .same rfl rfl rfl

theorem setCounterSlot_conserves (s : State) (i : SlotId) (x : SlotBytes) : Conserves s (s.setCounterSlot i x) := by
  cases i <;> exact .same rfl rfl rfl

theorem setKeyCopy_conserves (s : State) (i : CopyId) (x : CopyBytes) : Conserves s (s.setKeyCopy i x) := by
  cases i <;> exact .same rfl rfl rfl

theorem requestCounterWrite_conserves (s : State) (f : Bool) : Conserves s (s.requestCounterWrite f) := by
  have store := requestCounterWrite_store s f
  exact .same (requestCounterWrite_pending s f) (by rw [store]) (by rw [store])

theorem startBankWrite_conserves (s : State) (r : BankRequest) : Conserves s (s.startBankWrite r) :=
  conserves_of_memories (startBankWrite_pending s r) (startBankWrite_banks_wf s r)

theorem requestBankWrite_conserves (s : State) (r : BankRequest) : Conserves s (s.requestBankWrite r) := by
  unfold State.requestBankWrite
  split
  · exact startBankWrite_conserves s r
  · exact .same rfl rfl rfl

theorem startNextWrite_conserves (s : State) : Conserves s s.startNextWrite :=
  conserves_of_memories (startNextWrite_pending s) (startNextWrite_banks_wf s)

theorem continueBankWrite_conserves (s : State) (w : BankWrite) : Conserves s (s.continueBankWrite w) := by
  unfold State.continueBankWrite
  split
  · exact (startNextWrite_conserves _).before rfl rfl rfl
  · exact .same rfl rfl rfl

theorem startKeyWrite_conserves (s : State) (r : KeyRecord) (code : Byte) : Conserves s (s.startKeyWrite r code).1 := by
  unfold State.startKeyWrite
  split <;> exact .same rfl rfl rfl

theorem cutWrites_pending (s : State) : s.cutWrites.pending = s.pending := by
  unfold State.cutWrites
  split
  case h_1 => rfl
  case h_2 w _ =>
    split
    · unfold State.cutRetraction
      simp only
      split
      · exact setBank_pending s.nextChoice w.target _
      · rfl
    · rfl
  case h_3 w _ => exact setCounterSlot_pending s.nextChoice w.slot _
  case h_4 w _ => exact setKeyCopy_pending s.nextChoice w.copy _

/-- R161: the writes that a loss of supply cuts. -/
theorem cutWrites_conserves (s : State) : Conserves s s.cutWrites :=
  conserves_of_memories (cutWrites_pending s) (cutWrites_banks_wf s)

/-! ### Causes and the Update Engine -/

theorem raiseIf_conserves (b : Bool) (c : CauseName) (s : State) : Conserves s (s.raiseIf b c) := by
  rw [raiseIf_rest]
  exact .same rfl rfl rfl

theorem setChanged_conserves (ids : List Nat) (s : State) : Conserves s (s.setChanged ids) := by
  unfold State.setChanged
  simp only
  split <;> exact .same rfl rfl rfl

theorem endTampered_conserves (s : State) : Conserves s s.endTampered := by
  unfold State.endTampered
  split <;> exact .same rfl rfl rfl

theorem requested_banks (x : Store) (f : Bool) (snapshot : CounterSnapshot) :
    (x.requested f snapshot).bank0 = x.bank0 ∧ (x.requested f snapshot).bank1 = x.bank1 := by
  unfold Store.requested
  split <;> exact ⟨rfl, rfl⟩

theorem tamperAtEngine_conserves (s : State) : Conserves s s.tamperAtEngine := by
  obtain ⟨bank0, bank1⟩ := requested_banks s.store false (latched s).snapshot
  rw [tamperAtEngine_eq]
  exact (endTampered_conserves (tampered s)).before rfl bank0 bank1

theorem verified_conserves (s : State) : Conserves s s.verified := by
  unfold State.verified
  split
  case h_1 =>
    split
    · exact .same rfl rfl rfl
    · split
      · exact .same rfl rfl rfl
      · exact (requestBankWrite_conserves _ _).before rfl rfl rfl
  all_goals exact .refl s

/-! ### The Contactor Sequencer -/

theorem enterOpening_conserves (s : State) (c : Cause) : Conserves s (s.enterOpening c) := by
  unfold State.enterOpening State.countLoaded
  simp only
  split <;> exact .same rfl rfl rfl

/-- A transition that requests a counter write and raises CONTACTOR. -/
theorem recorded_conserves (s : State) (q : Sequencer) : Conserves s ({ s with seq := q } : State).recorded := by
  obtain ⟨bank0, bank1⟩ := requested_banks s.store false ({ s with seq := q } : State).snapshot
  exact .same rfl bank0 bank1

theorem enterOpen_conserves (s : State) : Conserves s s.enterOpen := by
  rw [enterOpen_eq]
  exact recorded_conserves s _

theorem enterLockout_conserves (s : State) (c : LockoutCause) : Conserves s (s.enterLockout c) := by
  rw [enterLockout_eq]
  exact recorded_conserves s _

theorem enterClosed_conserves (s : State) : Conserves s s.enterClosed := by
  rw [enterClosed_eq]
  exact recorded_conserves s _

theorem lockoutAtRest_conserves (s : State) (c : LockoutCause) (last : Cause) : Conserves s (s.lockoutAtRest c last) :=
  (enterLockout_conserves _ c).before rfl rfl rfl

theorem unlessInhibited_conserves (s : State) (q : Sequencer) (go : State → State) (h : ∀ x, Conserves x (go x)) :
    Conserves s (({ s with seq := q } : State).unlessInhibited go) := by
  refine .trans (t := { s with seq := q }) (.same rfl rfl rfl) ?_
  unfold State.unlessInhibited
  split
  · exact h _
  · exact enterOpening_conserves ..

theorem recordOpen_conserves (s : State) (m : Main) (stamp : Word32) : Conserves s (s.recordOpen m stamp) := by
  unfold State.recordOpen
  split
  · exact .refl s
  · split
    · exact .refl s
    · split <;> split <;> exact .same rfl rfl rfl

theorem auxEdge_conserves (s : State) (m : Main) (closed : Bool) (stamp : Word32) :
    Conserves s (s.auxEdge m closed stamp) := by
  unfold State.auxEdge
  split
  case h_1 => exact lockoutAtRest_conserves ..
  case h_3 =>
    split
    · exact unlessInhibited_conserves s _ _ fun _ => .same rfl rfl rfl
    · exact enterOpening_conserves ..
  case h_10 =>
    split
    · exact unlessInhibited_conserves s _ _ enterClosed_conserves
    · exact enterOpening_conserves ..
  case h_18 => exact recordOpen_conserves ..
  case h_4 | h_6 | h_7 | h_11 | h_14 | h_16 => exact enterOpening_conserves ..
  all_goals exact .refl s

theorem auxChange_conserves (s : State) (m : Main) (x : Option (Bool × Word32)) : Conserves s (s.auxChange m x) := by
  unfold State.auxChange
  split
  · exact auxEdge_conserves ..
  · exact .refl s

theorem crashAtSequencer_conserves (s : State) : Conserves s s.crashAtSequencer := by
  unfold State.crashAtSequencer
  split
  case h_1 => exact lockoutAtRest_conserves ..
  case h_7 => exact .same rfl rfl rfl
  case h_8 => exact .refl s
  all_goals exact enterOpening_conserves ..

theorem inhibitAtSequencer_conserves (s : State) (id : Nat) : Conserves s (s.inhibitAtSequencer id) := by
  unfold State.inhibitAtSequencer
  split
  case h_1 | h_2 | h_3 => exact enterOpening_conserves ..
  all_goals exact .refl s

theorem tripAtSequencer_conserves (s : State) (id : Nat) : Conserves s (s.tripAtSequencer id) := by
  unfold State.tripAtSequencer
  split
  case h_1 | h_2 | h_3 | h_4 | h_5 => exact enterOpening_conserves ..
  all_goals exact .refl s

theorem busSample_conserves (s : State) (v : Int) : Conserves s (s.busSample v) := by
  unfold State.busSample
  split
  · exact .refl s
  · split
    · simp only
      split
      · exact enterOpening_conserves ..
      · exact unlessInhibited_conserves s _ _ fun _ => .same rfl rfl rfl
    · exact .refl s

theorem referenceAtSequencer_conserves (s : State) (id : Nat) (v : Int) :
    Conserves s (s.referenceAtSequencer id v) := by
  unfold State.referenceAtSequencer
  split
  case h_1 =>
    split
    · exact busSample_conserves s v
    · exact .refl s
  case h_2 =>
    split
    · exact enterOpening_conserves ..
    · exact .refl s
  all_goals exact .refl s

theorem auxConfirmExpired_conserves (s : State) : Conserves s s.auxConfirmExpired := by
  unfold State.auxConfirmExpired
  split
  · exact enterOpening_conserves ..
  · exact enterOpening_conserves ..
  · exact .refl s

theorem prechargeExpired_conserves (s : State) : Conserves s s.prechargeExpired := by
  unfold State.prechargeExpired
  split
  · exact enterOpening_conserves ..
  · exact .refl s

theorem deferExpired_conserves (s : State) : Conserves s s.deferExpired := by
  unfold State.deferExpired
  split
  · exact enterOpening_conserves ..
  · exact .refl s

theorem dropoutExpired_conserves (s : State) : Conserves s s.dropoutExpired := by
  unfold State.dropoutExpired
  split
  · split
    · exact enterLockout_conserves ..
    · split
      · exact enterLockout_conserves ..
      · split
        · exact enterLockout_conserves ..
        · exact enterOpen_conserves s
  · exact .refl s

theorem openFromClosed_conserves (s : State) : Conserves s s.openFromClosed := by
  have deferred : Conserves s s.enterDeferring := .same rfl rfl rfl
  unfold State.openFromClosed
  split
  · exact enterOpening_conserves ..
  · split
    · exact deferred.trans (deferExpired_conserves _)
    · exact deferred

theorem deliverInhibit_conserves (s : State) : Conserves s s.deliverInhibit := by
  unfold State.deliverInhibit
  split
  · exact (inhibitAtSequencer_conserves s.dropNotice ..).before rfl rfl rfl
  all_goals exact .refl s

theorem deliverTrip_conserves (s : State) : Conserves s s.deliverTrip := by
  unfold State.deliverTrip
  split
  · exact (tripAtSequencer_conserves s.dropNotice ..).before rfl rfl rfl
  all_goals exact .refl s

theorem deliverReference_conserves (s : State) : Conserves s s.deliverReference := by
  unfold State.deliverReference
  split
  · exact (referenceAtSequencer_conserves s.dropNotice ..).before rfl rfl rfl
  all_goals exact .refl s

/-! ### The ring, frames and the tail (R55 to R67, R71 to R77) -/

theorem takeFaultBit_conserves (s : State) (a : Nat) (fault : Bool) : Conserves s (s.takeFaultBit a fault) := by
  unfold State.takeFaultBit
  split <;> exact .same rfl rfl rfl

theorem beginRound_conserves (s : State) (b : Bool) (ids : List Nat) (reach : Nat → Bool) :
    Conserves s (s.beginRound b ids reach) := by
  have missed := conserves_of_judges
    (missAll_judges s (ids.filter (fun id => (s.readEntry? id).any (fun e => !reach e.1))))
  unfold State.beginRound
  simp only
  split
  · exact missed
  · exact missed.after rfl rfl rfl

theorem quietCheck_conserves (s : State) : Conserves s s.quietCheck := by
  unfold State.quietCheck
  split
  · exact (requestCounterWrite_conserves _ true).before rfl rfl rfl
  · exact .refl s

theorem stopFrames_conserves (s : State) : Conserves s s.stopFrames := by
  unfold State.stopFrames
  exact (quietCheck_conserves _).before rfl rfl rfl

theorem serve_conserves (s : State) (x : TailItem) : Conserves s (Service.state (s.serve x)) := by
  unfold State.serve
  split
  · split
    · unfold State.serveSpot
      split
      · exact conserves_of_runs (captureSpot_runs ..)
      · split
        · exact .same rfl rfl rfl
        · exact conserves_of_judges (completeSpot_judges ..)
      · exact conserves_of_judges (completeSpot_judges ..)
    · exact .refl s
  · unfold State.serveMstat
    split <;> exact .same rfl rfl rfl

theorem serveTail_conserves (n : Nat) (s : State) : Conserves s (s.serveTail n) := by
  induction n generalizing s with
  | zero => exact .refl s
  | succ n ih =>
    unfold State.serveTail
    split
    case h_1 => exact .refl s
    case h_2 x _ _ =>
      have served := serve_conserves s x
      split
      case isFalse => exact .refl s
      case isTrue =>
        split
        case h_1 t ht =>
          rw [ht] at served
          exact served.after (t := t) rfl rfl rfl
        case h_2 t ht =>
          rw [ht] at served
          exact served.trans ((ih t.popTail).before rfl rfl rfl)

theorem runTail_conserves (s : State) : Conserves s s.runTail := serveTail_conserves _ s

theorem tailCompleted_conserves (s : State) : Conserves s s.tailCompleted :=
  (runTail_conserves _).before rfl rfl rfl

theorem joinTail_conserves (s : State) (x : TailItem) : Conserves s (s.joinTail x) := by
  unfold State.joinTail
  exact (runTail_conserves _).before rfl rfl rfl

theorem cutTail_conserves (s : State) : Conserves s s.cutTail := by
  unfold State.cutTail
  split <;> exact .same rfl rfl rfl

theorem judgeAggregates_conserves (s : State) (ids : List Nat) : Conserves s (s.judgeAggregates ids) :=
  conserves_of_judges (judgeAggregates_judges s ids)

theorem frameClose_conserves (s : State) : Conserves s s.frameClose := by
  unfold State.frameClose
  simp only
  refine (judgeAggregates_conserves s s.dueAggregates).trans ?_
  generalize s.judgeAggregates s.dueAggregates = t
  split
  · exact stopFrames_conserves t
  · exact (runTail_conserves _).before rfl rfl rfl

theorem roundEnded_conserves (s : State) (k : Nat) : Conserves s (s.roundEnded k) := by
  unfold State.roundEnded
  split
  · exact frameClose_conserves s
  · exact .same rfl rfl rfl

theorem startSlot_conserves (s : State) (k : Nat) : Conserves s (s.startSlot k) := by
  unfold State.startSlot
  simp only
  refine (conserves_of_runs ((setPhase_runs s (.slot k true)).trans (captureRound_runs _ (s.slotPoints k)))).trans ?_
  generalize (s.setPhase (.slot k true)).captureRound (s.slotPoints k) = t
  generalize (s.slotPoints k).filter (fun id => (s.readEntry? id).isSome) = chainIds
  have begun : Conserves t (if t.clock.given then t.missAll chainIds else t.beginRound false chainIds t.readable) := by
    split
    · exact conserves_of_judges (missAll_judges t chainIds)
    · exact beginRound_conserves t false chainIds t.readable
  refine begun.trans ?_
  generalize (if t.clock.given then t.missAll chainIds else t.beginRound false chainIds t.readable) = u
  split
  · exact .refl u
  · exact roundEnded_conserves u k

theorem overrun_conserves (s : State) : Conserves s s.overrun := by
  cases h : s.chain.round with
  | none =>
    rw [overrun_none h]
    exact .refl s
  | some r =>
    rw [overrun_eq h]
    have missed := conserves_of_judges
      (missAll_judges { s with chain := { s.chain with round := none, read := none } } (s.dependents r.queue r.points))
    have given : Conserves s (givenUp r s) := (missed.before (s := s) rfl rfl rfl).after rfl rfl rfl
    exact given.trans (conserves_of_runs (countRound_runs (givenUp r s) r))

theorem endFrame_conserves (s : State) : Conserves s s.endFrame := by
  unfold State.endFrame
  split
  · exact (overrun_conserves s).trans (judgeAggregates_conserves ..)
  · exact cutTail_conserves s
  · exact .refl s

theorem applyPointItem_conserves (s : State) (id : Nat) (d : Definition) : Conserves s (s.applyPointItem id d) := by
  unfold State.applyPointItem
  split <;> exact .same rfl rfl rfl

theorem applyGroupAt_conserves (s : State) (g : GroupItem) (id : Nat) : Conserves s (s.applyGroupAt g id) := by
  unfold State.applyGroupAt
  split
  · split <;> exact .same rfl rfl rfl
  · exact .refl s
  · exact .refl s

theorem applyItem_conserves (s : State) (x : Item) : Conserves s (s.applyItem x) := by
  cases x with
  | point id d => exact applyPointItem_conserves s id d
  | remove id => exact conserves_of_applies (vacate_applies s id)
  | group g => exact foldl_conserves _ (fun t id => applyGroupAt_conserves t g id) tableIds s
  | profile p => exact .same rfl rfl rfl
  | frame f => exact .same rfl rfl rfl

theorem applyCommit_conserves (s : State) : Conserves s s.applyCommit := by
  unfold State.applyCommit
  split
  · exact (foldl_conserves _ applyItem_conserves s.engine.stage s).after rfl rfl rfl
  all_goals exact .refl s

theorem openNumber_conserves (s : State) : Conserves s s.openNumber.decideDiscovery := by
  rw [decideDiscovery_rest]
  exact .same rfl rfl rfl

/-- What a frame start applies, and the number and the decision on discovery of the frame it opens. -/
theorem opening_conserves (s : State) : Conserves s (opening s) := by
  have params : Conserves s s.applyParams := by
    rw [applyParams_rest]
    exact .same rfl rfl rfl
  have applied := (params.trans (conserves_of_applies (applyPoints_applies _))).trans (applyCommit_conserves _)
  have refreshed := applied.trans (conserves_of_judges (refreshAllInhibits_judges _))
  unfold opening
  exact refreshed.trans (openNumber_conserves _)

theorem openFrame_conserves (s : State) : Conserves s s.openFrame :=
  (opening_conserves s).trans (startSlot_conserves (opening s) 0)

theorem frameStart_conserves (s : State) : Conserves s s.frameStart := by
  unfold State.frameStart
  simp only
  refine (endFrame_conserves s).trans ?_
  split
  · exact stopFrames_conserves _
  · exact openFrame_conserves _

theorem frameTimerExpired_conserves (s : State) : Conserves s s.frameTimerExpired := by
  unfold State.frameTimerExpired
  split
  · exact frameStart_conserves s
  · split
    · exact frameStart_conserves s
    · exact .refl s
  · exact .refl s
  · exact .refl s

theorem slotInstantReached_conserves (s : State) : Conserves s s.slotInstantReached := by
  unfold State.slotInstantReached
  split
  · split
    · exact (overrun_conserves s).trans (startSlot_conserves ..)
    · exact .refl s
  · exact .refl s
  · exact .refl s

theorem captureDelivered_conserves (s : State) (c : Converter) (reading : Int) :
    Conserves s (s.captureDelivered c reading) := by
  unfold State.captureDelivered
  split
  case h_1 => exact .refl s
  case h_2 x _ =>
    simp only
    have delivered : Conserves s ((s.setCapture c none).deliver x.ids (convertedValue c reading)) :=
      (conserves_of_runs (setCapture_runs s c none)).trans (conserves_of_judges (deliver_judges ..))
    split
    · exact (delivered.trans (conserves_of_judges (completeSpot_judges ..))).trans (tailCompleted_conserves _)
    · exact delivered

end Sys2Proof.Proofs

/-! The queue and the bank memories, part 2: the moves of the Power Manager, the ends of rounds and of the Store's
writes, and the host port. -/

namespace Sys2Proof.Proofs

open Sys2Proof.Machine Sys2Proof.Laws

/-! ### The moves of the Power Manager (R128, R129, R133 to R145) -/

/-- R128: the areas of the Store and the queue stand at the entry to LOADING. -/
theorem enterLoading_conserves (c : StartCause) (s : State) : Conserves s (s.enterLoading c) := .same rfl rfl rfl

theorem losePower_conserves (s : State) : Conserves s s.losePower :=
  ((cutWrites_conserves s).trans (enterLoading_conserves .powerOn _)).after rfl rfl rfl

theorem gainPower_conserves (s : State) : Conserves s s.gainPower := (losePower_conserves s).after rfl rfl rfl

theorem afterWrite_conserves (s : State) : Conserves s s.afterWrite := by
  unfold State.afterWrite
  split
  · exact enterLoading_conserves .reset s
  · exact .refl s

theorem enterActive_conserves (s : State) : Conserves s s.enterActive :=
  (frameStart_conserves _).before rfl rfl rfl

theorem gather_conserves (s : State) (c : WakeName) : Conserves s (s.gather c) := by
  unfold State.gather
  split <;> exact .same rfl rfl rfl

theorem wakePoint_conserves (s : State) (id : Nat) : Conserves s (s.wakePoint id) := by
  unfold State.wakePoint
  split
  · split <;> exact .same rfl rfl rfl
  · exact .refl s
  · exact .refl s

theorem awakened_conserves (t : State) : Conserves t (awakened t) := .same rfl rfl rfl

theorem finishWaking_conserves (s : State) : Conserves s s.finishWaking := by
  have woken : Conserves s s.wakeTransition :=
    (foldl_conserves _ wakePoint_conserves tableIds s).trans (conserves_of_judges (refreshAllInhibits_judges _))
  rw [finishWaking_frameStart]
  exact (woken.trans (awakened_conserves _)).trans (frameStart_conserves _)

theorem settlingDecision_conserves (s : State) : Conserves s s.settlingDecision := by
  unfold State.settlingDecision
  split
  · split
    · exact .same rfl rfl rfl
    · exact (enterActive_conserves _).before rfl rfl rfl
  · exact .refl s

theorem sleepTimerExpired_conserves (s : State) : Conserves s s.sleepTimerExpired := by
  unfold State.sleepTimerExpired
  split <;> exact .same rfl rfl rfl

theorem sleepRoundEnded_conserves (s : State) : Conserves s s.sleepRoundEnded := by
  unfold State.sleepRoundEnded
  simp only
  refine (judgeAggregates_conserves s s.dueSleepAggregates).trans ?_
  split <;> exact .same rfl rfl rfl

theorem startSleepRound_conserves (s : State) (found : Nat) : Conserves s (s.startSleepRound found) := by
  unfold State.startSleepRound
  simp only
  have begun := (conserves_of_runs (captureRound_runs s s.sleepPoints)).trans (beginRound_conserves _ true
    (s.sleepPoints.filter (fun id => (s.readEntry? id).isSome)) (fun a => decide (a < found) && s.readable a))
  split
  · exact begun
  · exact begun.trans (sleepRoundEnded_conserves _)

theorem sleepEnumerationEnded_conserves (s : State) (found : Nat) : Conserves s (s.sleepEnumerationEnded found) := by
  unfold State.sleepEnumerationEnded
  simp only
  split <;> exact (startSleepRound_conserves _ found).before rfl rfl rfl

/-! ### The ends of rounds, reads and enumerations -/

theorem finishRound_conserves (s : State) (r : Round) : Conserves s (s.finishRound r) := by
  have counted := conserves_of_runs (countRound_runs { s with chain := { s.chain with round := none } } r)
  unfold State.finishRound
  simp only
  refine (counted.before (s := s) rfl rfl rfl).trans ?_
  generalize State.countRound r { s with chain := { s.chain with round := none } } = t
  split
  · exact sleepRoundEnded_conserves t
  · split
    · exact roundEnded_conserves t _
    · exact .refl t
    · exact .refl t

theorem roundReadEnded_conserves (s : State) (words : Option (List Nat)) : Conserves s (s.roundReadEnded words) := by
  unfold State.roundReadEnded
  split
  case h_1 => exact .refl s
  case h_2 r _ =>
    split
    case h_1 => exact .refl s
    case h_2 e rest _ =>
      simp only
      refine (conserves_of_judges (giveRound_judges s e.2 words (s.dependents [e] r.points))).trans ?_
      split
      · exact finishRound_conserves ..
      · exact .same rfl rfl rfl

theorem mstatReadEnded_conserves (s : State) (r : Read) (words : Option (List Nat)) :
    Conserves s (s.mstatReadEnded r words) := by
  unfold State.mstatReadEnded
  simp only
  refine .trans ?_ (tailCompleted_conserves _)
  split <;> exact .same rfl rfl rfl

theorem readEnded_conserves (s : State) (r : Read) (words : Option (List Nat)) : Conserves s (s.readEnded r words) := by
  unfold State.readEnded
  simp only
  refine .trans (t := s.abandonRead) (.same rfl rfl rfl) ?_
  split
  · exact roundReadEnded_conserves _ words
  · exact (conserves_of_judges (completeSpot_judges ..)).trans (tailCompleted_conserves _)
  · exact mstatReadEnded_conserves _ r words

theorem attemptFailed_conserves (s : State) (r : Read) (k : FailureKind) : Conserves s (s.attemptFailed r k) := by
  unfold State.attemptFailed
  simp only
  split
  · exact .same rfl rfl rfl
  · exact (readEnded_conserves _ r none).before rfl rfl rfl

theorem takeReply_conserves (s : State) (r : Read) (m : List Byte) : Conserves s (s.takeReply r m) := by
  unfold State.takeReply
  simp only
  refine (takeFaultBit_conserves s r.address (checkReply r s.chain.tag m).fault).trans ?_
  split
  case h_4 => exact readEnded_conserves ..
  all_goals exact attemptFailed_conserves ..

theorem readWaitExpired_conserves (s : State) : Conserves s s.readWaitExpired := by
  unfold State.readWaitExpired
  split
  · exact attemptFailed_conserves ..
  · exact .refl s

theorem upMessage_conserves (s : State) (m : List Byte) : Conserves s (s.upMessage m) := by
  unfold State.upMessage
  split
  · exact takeReply_conserves ..
  · split
    · split <;> exact .same rfl rfl rfl
    · exact .refl s

theorem enumDelayExpired_conserves (s : State) : Conserves s s.enumDelayExpired := by
  unfold State.enumDelayExpired
  split
  · split <;> exact .same rfl rfl rfl
  · exact .refl s

theorem afterDiscovery_conserves (s : State) : Conserves s s.afterDiscovery := by
  unfold State.afterDiscovery
  split
  case h_1 => exact enterActive_conserves s
  case h_2 => exact finishWaking_conserves s
  case h_3 => exact quietCheck_conserves s
  case h_4 => exact runTail_conserves s
  all_goals exact .refl s

theorem discoveryEnded_conserves (s : State) (cause : DiscoveryCause) (f c : Nat) :
    Conserves s (s.discoveryEnded cause f c) :=
  ((raiseIf_conserves _ _ (s.rebuildRoster cause f c)).trans (afterDiscovery_conserves _)).before rfl rfl rfl

theorem enumSilenceExpired_conserves (s : State) : Conserves s s.enumSilenceExpired := by
  unfold State.enumSilenceExpired
  split
  · split
    · split
      · exact discoveryEnded_conserves ..
      · exact sleepEnumerationEnded_conserves ..
    · exact .refl s
  · exact .refl s

/-! ### Line samples and the end of LOADING (R93 to R100, R128) -/

theorem crashEvent_conserves (s : State) : Conserves s s.crashEvent :=
  (crashAtSequencer_conserves s).trans (gather_conserves _ .crash)

theorem tamperEvent_conserves (s : State) : Conserves s s.tamperEvent :=
  (tamperAtEngine_conserves s).trans (gather_conserves _ .tamper)

theorem lineEvents_conserves (s : State) (x : LineChanges) : Conserves s (s.lineEvents x) := by
  have aux := (auxChange_conserves s .neg x.auxNeg).trans (auxChange_conserves _ .pos x.auxPos)
  have crash := onHigh_keeps (Conserves s) x.crash State.crashEvent _ aux fun t h => h.trans (crashEvent_conserves t)
  have wake := onHigh_keeps (Conserves s) x.wake (fun t => t.gather .line) _ crash fun t h =>
    h.trans (gather_conserves t .line)
  exact onHigh_keeps (Conserves s) x.lid State.tamperEvent _ wake fun t h => h.trans (tamperEvent_conserves t)

theorem checkLoadingEnd_conserves (s : State) : Conserves s s.checkLoadingEnd := by
  unfold State.checkLoadingEnd
  split
  · exact (lineEvents_conserves ..).before rfl rfl rfl
  · exact .refl s

theorem sampleLines_conserves (s : State) (l : LineLevels) : Conserves s (s.sampleLines l) := by
  refine .trans (t := stagesMoved l s) (.same rfl rfl rfl) ?_
  by_cases loading : s.power.state = .loading
  · rw [sampleLines_loading l loading]
    exact checkLoadingEnd_conserves _
  · rw [sampleLines_awake l loading]
    exact lineEvents_conserves ..

theorem passTime_conserves (s : State) : Conserves s s.passTime := by
  unfold State.passTime
  split
  · exact sampleLines_conserves ..
  · exact .same rfl rfl rfl

/-- R157 to R160: the load reads the banks and writes neither. -/
theorem endLoad_conserves (s : State) : Conserves s s.endLoad := by
  have rest := endLoad_rest s
  rw [rest]
  exact .same rfl rfl rfl

theorem loadEnded_conserves (s : State) : Conserves s s.loadEnded := by
  unfold State.loadEnded
  split
  · exact (endLoad_conserves s).trans (checkLoadingEnd_conserves _)
  · exact .refl s

/-! ### The ends of the Store's writes (R153, R154, R156) -/

/-- What follows a write that has ended: the next holder of the arbiter, and the start of a held RESET. -/
theorem nextWrite_conserves (s : State) : Conserves s s.startNextWrite.afterWrite :=
  (startNextWrite_conserves s).trans (afterWrite_conserves _)

theorem counterWriteEnded_conserves (s : State) (b : Bool) : Conserves s (s.counterWriteEnded b) := by
  unfold State.counterWriteEnded
  split
  case h_1 w _ =>
    simp only
    have ended : Conserves s (if b then s.counterStored w else s.counterLost w) := by
      split <;> exact (setCounterSlot_conserves s w.slot _).after rfl rfl rfl
    generalize (if b then s.counterStored w else s.counterLost w) = t at ended
    refine (ended.trans ?_).trans (nextWrite_conserves _)
    split
    · exact settlingDecision_conserves t
    · exact .refl t
  all_goals exact .refl s

/-- R153: the work of a unit and what its end leads to. -/
theorem bankUnitEnded_conserves (s : State) (b : Bool) : Conserves s (s.bankUnitEnded b) := by
  unfold State.bankUnitEnded
  split
  case h_1 w _ =>
    simp only
    refine (setBank_conserves s w.target (work_wf w b (s.bank w.target))).trans ?_
    generalize s.setBank w.target (w.work b (s.bank w.target)) = t
    split
    · exact continueBankWrite_conserves ..
    · exact ((setBankState_conserves t w.target .valid).after (u := t.commitWritten w) rfl rfl rfl).trans
        (nextWrite_conserves _)
    · exact ((setBankState_conserves t w.target .empty).after (u := t.commitFailed w) rfl rfl rfl).trans
        (nextWrite_conserves _)
  all_goals exact .refl s

theorem answerKeyWrite_conserves (s : State) (w : KeyWrite) (ok : Bool) : Conserves s (s.answerKeyWrite w ok) := by
  unfold State.answerKeyWrite
  split <;> exact .same rfl rfl rfl

theorem keyWriteEnded_conserves (s : State) (b : Bool) : Conserves s (s.keyWriteEnded b) := by
  unfold State.keyWriteEnded
  split
  case h_1 w _ =>
    simp only
    refine .trans (.trans ?_ (answerKeyWrite_conserves _ w b)) (nextWrite_conserves _)
    split <;> exact (setKeyCopy_conserves s w.copy _).after rfl rfl rfl
  all_goals exact .refl s

/-! ### The host port (R147, R148, R185 to R189) -/

theorem beginReset_conserves (s : State) : Conserves s s.beginReset := by
  unfold State.beginReset
  split <;> exact .same rfl rfl rfl

theorem emptySlotAwake_conserves (s : State) : Conserves s s.emptySlotAwake := by
  unfold State.emptySlotAwake
  split <;> exact .same rfl rfl rfl

theorem beginWrite_conserves (s : State) : Conserves s s.beginWrite := by
  unfold State.beginWrite
  simp only
  split
  · exact ((emptySlotAwake_conserves (s.shiftOut (idleBytes 1))).before (s := s) rfl rfl rfl).after rfl rfl rfl
  · exact (beginReset_conserves _).before rfl rfl rfl
  · exact .same rfl rfl rfl

/-- A write transaction conserves what its request does. -/
theorem endWrite_conserves (s : State) (n : Nat) (act : State → State) (hact : ∀ t, Conserves t (act t)) :
    Conserves s (s.endWrite n act) := by
  have begun : Conserves s s.ensureBegun := by
    unfold State.ensureBegun
    split
    · exact beginWrite_conserves s
    · exact .refl s
    · exact .refl s
  unfold State.endWrite
  simp only
  have ended : Conserves s ((s.ensureBegun.setWriteTx .none).shiftOut (idleBytes n)) := begun.after rfl rfl rfl
  split
  · exact ended
  · exact ended.trans (hact _)

theorem portAnswer_conserves (s : State) (code : Byte) (a : AnswerCode) : Conserves s (s.portAnswer code a) := by
  unfold State.portAnswer
  split <;> exact .same rfl rfl rfl

theorem badFrame_conserves (s : State) (frame : List Byte) : Conserves s (s.badFrame frame) := by
  unfold State.badFrame
  split
  · exact .refl s
  · split
    · exact endWrite_conserves s _ _ fun t => portAnswer_conserves t _ _
    · exact .refl s

theorem unknownCode_conserves (s : State) (code : Byte) (body : List Byte) : Conserves s (s.unknownCode code body) := by
  unfold State.unknownCode
  split
  · exact .refl s
  · exact endWrite_conserves s _ _ fun t => portAnswer_conserves t _ _

theorem readOut_conserves (s : State) (n : Nat) : Conserves s (s.readOut n) := by
  unfold State.readOut
  split
  · exact .refl s
  · simp only
    split
    · exact (beginReset_conserves _).before rfl rfl rfl
    · exact .same rfl rfl rfl

theorem placeReply_conserves (s : State) (code : Byte) (r : Reply) : Conserves s (s.placeReply code r) := by
  cases r <;> exact .same rfl rfl rfl

theorem takeRequest_conserves (s : State) (code : Byte) (ok : Bool) (owner : State → State × Reply)
    (hown : ∀ t, Conserves t (owner t).1) : Conserves s (takeRequest code ok owner s) := by
  unfold takeRequest
  split
  · exact .refl s
  · exact .same rfl rfl rfl
  · split
    · exact (hown s).trans (placeReply_conserves ..)
    · exact .same rfl rfl rfl

end Sys2Proof.Proofs

/-! The queue and the bank memories, part 3: the owners of the requests, every command, and the step. -/

namespace Sys2Proof.Proofs

open Sys2Proof.Machine Sys2Proof.Laws

/-! ### The owners -/

theorem withId_conserves (b : List Byte) (owner : Nat → State → State × Reply)
    (h : ∀ id s, Conserves s (owner id s).1) (s : State) : Conserves s (withId b owner s).1 := by
  unfold withId
  split
  · exact h _ s
  · exact .refl s

/-- A test behind which an owner leaves the part alone: mostly a refusal. -/
theorem unless_conserves {s : State} {p : Prop} [Decidable p] {a : Reply} {y : State × Reply} (h : Conserves s y.1) :
    Conserves s (if p then (s, a) else y).1 := by
  split
  · exact .refl s
  · exact h

theorem takeEnlist_conserves (b : List Byte) (id : Nat) (s : State) : Conserves s (takeEnlist b id s).1 := by
  refine unless_conserves (unless_conserves ?_)
  split
  · exact .refl s
  · exact unless_conserves (unless_conserves (.same rfl rfl rfl))

theorem takeAmend_conserves (b : List Byte) (id : Nat) (s : State) : Conserves s (takeAmend b id s).1 := by
  unfold takeAmend
  split
  case h_3 =>
    refine unless_conserves (unless_conserves ?_)
    split
    · exact .refl s
    · exact unless_conserves (unless_conserves (unless_conserves (.same rfl rfl rfl)))
  all_goals exact .refl s

theorem takeAmendg_conserves (b : List Byte) (s : State) : Conserves s (takeAmendg b s).1 := by
  unfold takeAmendg
  split
  · exact .refl s
  · refine unless_conserves (unless_conserves ?_)
    obtain ⟨points, merged⟩ := mergeAll_writes _ (s.groupTargets _ _ _) s
    rw [merged]
    exact .same rfl rfl rfl

theorem takeRetire_conserves (id : Nat) (s : State) : Conserves s (takeRetire id s).1 := by
  unfold takeRetire
  split
  case h_3 =>
    exact unless_conserves (unless_conserves (unless_conserves (unless_conserves (unless_conserves
      (.same rfl rfl rfl)))))
  all_goals exact .refl s

theorem takeRelease_conserves (id : Nat) (s : State) : Conserves s (takeRelease id s).1 := by
  unfold takeRelease
  split
  case h_3 d l p live =>
    exact unless_conserves (unless_conserves (conserves_of_judges (setLive_judges s id d l _ p live)))
  all_goals exact .refl s

theorem takeSetfrm_conserves (b : List Byte) (s : State) : Conserves s (takeSetfrm b s).1 :=
  unless_conserves (unless_conserves (unless_conserves (.same rfl rfl rfl)))

theorem takeSpot_conserves (id : Nat) (s : State) : Conserves s (takeSpot id s).1 :=
  unless_conserves (unless_conserves (unless_conserves (unless_conserves (joinTail_conserves ..))))

theorem takeMstat_conserves (b : List Byte) (s : State) : Conserves s (takeMstat b s).1 := by
  unfold takeMstat
  split
  · exact .refl s
  · exact unless_conserves (unless_conserves (unless_conserves (joinTail_conserves ..)))

theorem takeClose_conserves (s : State) : Conserves s (takeClose s).1 :=
  unless_conserves (unless_conserves (unless_conserves (unless_conserves (.same rfl rfl rfl))))

theorem takeOpen_conserves (s : State) : Conserves s (takeOpen s).1 := by
  unfold takeOpen
  split
  case h_1 => exact openFromClosed_conserves s
  case h_2 | h_3 | h_4 => exact enterOpening_conserves ..
  all_goals exact .refl s

theorem takeTrip_conserves (s : State) : Conserves s (takeTrip s).1 := by
  unfold takeTrip
  split
  case h_1 | h_2 | h_3 | h_4 | h_5 => exact enterOpening_conserves ..
  all_goals exact .refl s

theorem takeClrlock_conserves (s : State) : Conserves s (takeClrlock s).1 :=
  unless_conserves (unless_conserves (enterOpen_conserves s))

theorem abandonStaging_conserves (s : State) : Conserves s s.abandonStaging := by
  unfold State.abandonStaging
  split <;> exact .same rfl rfl rfl

theorem enterSettling_conserves (s : State) : Conserves s s.enterSettling := by
  unfold State.enterSettling
  simp only
  have settled := abandonStaging_conserves
    { s with power := { s.power with state := .settling, wakeSet := .none, quiet := false } }
  refine (settled.before (s := s) rfl rfl rfl).trans ?_
  split
  · exact stopFrames_conserves _
  · exact .refl _
  · exact quietCheck_conserves _

theorem takeSleep_conserves (s : State) : Conserves s (takeSleep s).1 :=
  unless_conserves (unless_conserves (unless_conserves (enterSettling_conserves s)))

theorem takeWake_conserves (s : State) : Conserves s (takeWake s).1 := by
  unfold takeWake
  split
  case h_2 | h_3 | h_4 => exact gather_conserves s .request
  all_goals exact .refl s

theorem takeUopen_conserves (b : List Byte) (s : State) : Conserves s (takeUopen b s).1 :=
  unless_conserves (unless_conserves (unless_conserves (unless_conserves (unless_conserves (unless_conserves
    (.same rfl rfl rfl))))))

theorem takeUstage_conserves (b : List Byte) (s : State) : Conserves s (takeUstage b s).1 := by
  refine unless_conserves ?_
  split
  · exact .refl s
  · exact unless_conserves (unless_conserves (unless_conserves (.same rfl rfl rfl)))

theorem takeUcommit_conserves (b : List Byte) (s : State) : Conserves s (takeUcommit b s).1 := by
  unfold takeUcommit
  split
  case h_2 => exact unless_conserves (unless_conserves (.same rfl rfl rfl))
  all_goals exact .refl s

theorem takeUabandon_conserves (s : State) : Conserves s (takeUabandon s).1 := by
  unfold takeUabandon
  split <;> exact .same rfl rfl rfl

theorem writeKey_conserves (r : KeyRecord) (code : Byte) (s : State) : Conserves s (writeKey r code s).1 := by
  unfold writeKey
  simp only
  split <;> exact startKeyWrite_conserves s r code

theorem takeKeyinst_conserves (b : List Byte) (s : State) : Conserves s (takeKeyinst b s).1 :=
  unless_conserves (unless_conserves (unless_conserves (unless_conserves (writeKey_conserves ..))))

theorem takeFinlock_conserves (s : State) : Conserves s (takeFinlock s).1 :=
  unless_conserves (unless_conserves (unless_conserves (writeKey_conserves ..)))

theorem takeClrtamp_conserves (b : List Byte) (s : State) : Conserves s (takeClrtamp b s).1 :=
  unless_conserves (unless_conserves (unless_conserves (unless_conserves
    ((requestCounterWrite_conserves _ false).before rfl rfl rfl))))

/-! ### Every command and every step -/

/-- Every request goes its way to an owner that conserves queue and banks; a query clears causes at most. -/
theorem exec_request_conserves {c : Instr} {code : Byte} {body : List Byte} (h : c.request? = some (code, body)) :
    ∃ ok owner, (∀ s, exec c s = request code body ok owner s) ∧ ∀ s, Conserves s (owner s).1 := by
  cases c <;> cases h
  case enlist => exact ⟨_, _, fun _ => rfl, withId_conserves _ _ (takeEnlist_conserves body)⟩
  case lookup => exact ⟨_, _, fun _ => rfl, withId_conserves _ _ fun _ s => unless_conserves (.refl s)⟩
  case amend => exact ⟨_, _, fun _ => rfl, withId_conserves _ _ (takeAmend_conserves body)⟩
  case amendg => exact ⟨_, _, fun _ => rfl, takeAmendg_conserves body⟩
  case retire => exact ⟨_, _, fun _ => rfl, withId_conserves _ _ takeRetire_conserves⟩
  case release => exact ⟨_, _, fun _ => rfl, withId_conserves _ _ takeRelease_conserves⟩
  case changes => exact ⟨_, _, fun _ => rfl, fun s => setChanged_conserves _ s⟩
  case qinhib => exact ⟨_, _, fun _ => rfl, fun s => unless_conserves (.refl s)⟩
  case setfrm => exact ⟨_, _, fun _ => rfl, takeSetfrm_conserves body⟩
  case qfrm => exact ⟨_, _, fun _ => rfl, fun _ => .same rfl rfl rfl⟩
  case spot => exact ⟨_, _, fun _ => rfl, withId_conserves _ _ takeSpot_conserves⟩
  case discov => exact ⟨_, _, fun _ => rfl, fun s => unless_conserves (.same rfl rfl rfl)⟩
  case mstat => exact ⟨_, _, fun _ => rfl, takeMstat_conserves body⟩
  case qchain => exact ⟨_, _, fun _ => rfl, fun _ => .same rfl rfl rfl⟩
  case close => exact ⟨_, _, fun _ => rfl, takeClose_conserves⟩
  case openRequest => exact ⟨_, _, fun _ => rfl, takeOpen_conserves⟩
  case trip => exact ⟨_, _, fun _ => rfl, takeTrip_conserves⟩
  case clrlock => exact ⟨_, _, fun _ => rfl, takeClrlock_conserves⟩
  case qcont => exact ⟨_, _, fun _ => rfl, fun _ => .same rfl rfl rfl⟩
  case sleep => exact ⟨_, _, fun _ => rfl, takeSleep_conserves⟩
  case wake => exact ⟨_, _, fun _ => rfl, takeWake_conserves⟩
  case qpower => exact ⟨_, _, fun _ => rfl, fun _ => .same rfl rfl rfl⟩
  case reset => exact ⟨_, _, fun _ => rfl, fun s => unless_conserves (unless_conserves (.same rfl rfl rfl))⟩
  case uopen => exact ⟨_, _, fun _ => rfl, takeUopen_conserves body⟩
  case ustage => exact ⟨_, _, fun _ => rfl, takeUstage_conserves body⟩
  case ucommit => exact ⟨_, _, fun _ => rfl, takeUcommit_conserves body⟩
  case uabandon => exact ⟨_, _, fun _ => rfl, takeUabandon_conserves⟩
  case qstore => exact ⟨_, _, fun _ => rfl, fun _ => .same rfl rfl rfl⟩
  case keyinst => exact ⟨_, _, fun _ => rfl, takeKeyinst_conserves body⟩
  case finlock => exact ⟨_, _, fun _ => rfl, takeFinlock_conserves⟩
  case clrtamp => exact ⟨_, _, fun _ => rfl, takeClrtamp_conserves body⟩
  case status => exact ⟨_, _, fun _ => rfl, .refl⟩
  case mask => exact ⟨_, _, fun _ => rfl, fun _ => .same rfl rfl rfl⟩
  case ident => exact ⟨_, _, fun _ => rfl, .refl⟩

/-- The driving of the pins conserves what the event before it does. -/
theorem event_conserves {f : State → State} (hf : ∀ u, Conserves u (f u)) {s t : State} (h : event f s = .next t) :
    Conserves s t := by
  unfold event at h
  split at h <;> cases h
  · exact (hf s).after rfl rfl rfl
  · exact .refl s

theorem execPowerLoss_conserves {s t : State} (h : execPowerLoss s = .next t) : Conserves s t := by
  unfold execPowerLoss at h
  split at h <;> cases h
  · exact losePower_conserves s
  · exact .refl s

/-- Whatever command runs, and in whatever state: O3 is the queue's half of this, O6 the banks'. -/
theorem exec_conserves {c : Instr} {s t : State} (h : exec c s = .next t) : Conserves s t := by
  cases hc : c.request? with
  | some r =>
    obtain ⟨ok, owner, hexec, hown⟩ := exec_request_conserves (code := r.1) (body := r.2) hc
    rw [hexec] at h
    exact event_conserves (fun u => endWrite_conserves u _ _ fun v => takeRequest_conserves v _ ok owner hown) h
  | none =>
    cases c
    case powerOn =>
      cases h
      exact gainPower_conserves s
    case powerLoss => exact execPowerLoss_conserves h
    case storeLoadEnd => exact event_conserves loadEnded_conserves h
    case writeTransactionBegin => exact event_conserves beginWrite_conserves h
    case readTransaction n => exact event_conserves (fun u => readOut_conserves u n) h
    case frameError frame => exact event_conserves (fun u => badFrame_conserves u frame) h
    case unknownRequest code body => exact event_conserves (fun u => unknownCode_conserves u code body) h
    case frameStart => exact event_conserves frameTimerExpired_conserves h
    case slotStart => exact event_conserves slotInstantReached_conserves h
    case captureDelivery x reading => exact event_conserves (fun u => captureDelivered_conserves u x reading) h
    case blockReply m => exact event_conserves (fun u => upMessage_conserves u m) h
    case readWaitExpiry => exact event_conserves readWaitExpired_conserves h
    case enumDelayExpiry => exact event_conserves enumDelayExpired_conserves h
    case enumReply m => exact event_conserves (fun u => upMessage_conserves u m) h
    case enumSilenceExpiry => exact event_conserves enumSilenceExpired_conserves h
    case sleepTimerExpiry => exact event_conserves sleepTimerExpired_conserves h
    case lineSample l => exact event_conserves (fun u => sampleLines_conserves u l) h
    case inhibitNotice => exact event_conserves deliverInhibit_conserves h
    case tripNotice => exact event_conserves deliverTrip_conserves h
    case referenceSample => exact event_conserves deliverReference_conserves h
    case auxConfirmExpiry => exact event_conserves auxConfirmExpired_conserves h
    case prechargeTimeoutExpiry => exact event_conserves prechargeExpired_conserves h
    case deferMaxExpiry => exact event_conserves deferExpired_conserves h
    case dropoutExpiry => exact event_conserves dropoutExpired_conserves h
    case counterWriteEnd b => exact event_conserves (fun u => counterWriteEnded_conserves u b) h
    case bankWriteUnitEnd b => exact event_conserves (fun u => bankUnitEnded_conserves u b) h
    case keyWriteEnd b => exact event_conserves (fun u => keyWriteEnded_conserves u b) h
    case verifyComplete => exact event_conserves verified_conserves h
    all_goals cases hc

/-- Settles O3: no operation of the part writes the queue; only the step takes from it. -/
theorem commandsLeaveTheQueue : Obligations.CommandsLeaveTheQueue := fun _ _ _ h => (exec_conserves h).queue

/-- Settles O6: every byte enters a bank by `Memory.writeBytes`, which keeps the canonical form (`writeBytes_wf`), and a
command's other operations leave both memories alone. -/
theorem stepKeepsBanksCanonical : Obligations.StepKeepsBanksCanonical := by
  intro s t hs h
  cases hq : s.pending with
  | nil =>
    have idle : event State.passTime s = .next t := by rw [← h, step, hq]; rfl
    exact (event_conserves passTime_conserves idle).banks hs
  | cons c rest => exact (exec_conserves ((step_front hq).symm.trans h)).banks hs

end Sys2Proof.Proofs

/-! The sets of the Point Table and the cause POINTS, part 1 (R39, R44): what every command keeps exact of the inhibit set
and of the changed-point set, from the records up to the running of frames. -/

namespace Sys2Proof.Proofs

open Sys2Proof.Machine Sys2Proof.Laws

/-! ### What keeps the sets exact -/

/-- What the exactness of the sets hangs on: the records, the two sets and the cause POINTS. -/
structure PointSets where
  points : Vector Point 384
  inhibitSet : List Nat
  changedSet : List Nat
  cause : Bool

def pointSets (s : State) : PointSets :=
  { points := s.table.points, inhibitSet := s.table.inhibitSet, changedSet := s.table.changedSet
    cause := s.attention.set.points }

/-- `t` holds POINTS exact when `s` does (R44), and the inhibit set exact when `s` does (R39). -/
structure KeepsSets (s t : State) : Prop where
  cause : s.pointsCauseExact → t.pointsCauseExact
  inhibits : s.inhibitSetExact → t.inhibitSetExact

theorem KeepsSets.refl (s : State) : KeepsSets s s := ⟨id, id⟩

theorem KeepsSets.trans {s t u : State} (h : KeepsSets s t) (k : KeepsSets t u) : KeepsSets s u :=
  ⟨k.cause ∘ h.cause, k.inhibits ∘ h.inhibits⟩

/-- An operation that touches neither the records nor the sets nor POINTS; the equation is mostly definitional. -/
theorem KeepsSets.same {s t : State} (h : pointSets t = pointSets s) : KeepsSets s t where
  cause := fun exact => by
    have hc : t.table.changedSet = s.table.changedSet := congrArg PointSets.changedSet h
    have hp : t.attention.set.points = s.attention.set.points := congrArg PointSets.cause h
    unfold State.pointsCauseExact at exact ⊢
    rw [hc, hp, exact]
  inhibits := fun exact => by
    have hi : t.table.inhibitSet = s.table.inhibitSet := congrArg PointSets.inhibitSet h
    have hp : ∀ id, t.point id = s.point id := point_of_table s t (congrArg PointSets.points h)
    unfold State.inhibitSetExact at exact ⊢
    simp only [hi, hp]
    exact exact

/-- Such an operation behind one that keeps the sets exact. -/
theorem KeepsSets.after {s t u : State} (h : KeepsSets s t) (hu : pointSets u = pointSets t) : KeepsSets s u :=
  h.trans (.same hu)

/-- Such an operation before one that keeps the sets exact. -/
theorem KeepsSets.before {s t u : State} (h : KeepsSets t u) (ht : pointSets t = pointSets s) : KeepsSets s u :=
  .trans (.same ht) h

/-- An operation after which both sets are exact, whatever they were. -/
theorem KeepsSets.of_exact {s t : State} (hc : t.pointsCauseExact) (hi : t.inhibitSetExact) : KeepsSets s t :=
  ⟨fun _ => hc, fun _ => hi⟩

theorem pointSets_of_blocks {s t : State} (ht : t.table = s.table) (ha : t.attention = s.attention) :
    pointSets t = pointSets s := by
  unfold pointSets
  rw [ht, ha]

theorem keepsSets_of_blocks {s t : State} (ht : t.table = s.table) (ha : t.attention = s.attention) :
    KeepsSets s t := .same (pointSets_of_blocks ht ha)

theorem foldl_keepsSets {α : Type} (f : State → α → State) (h : ∀ s x, KeepsSets s (f s x)) (xs : List α)
    (s : State) : KeepsSets s (xs.foldl f s) := by
  induction xs generalizing s with
  | nil => exact .refl s
  | cons x rest ih => exact (h s x).trans (ih _)

/-! ### The changed-point set (R43, R44) -/

/-- R44: an id that joins the set leaves it not empty, with POINTS standing. -/
theorem addChanged_pointsCauseExact (id : Nat) (s : State) : (s.addChanged id).pointsCauseExact := by
  show true = !(insertId id s.table.changedSet).isEmpty
  simp [insertId_ne_nil]

/-- R44: POINTS is brought to what the new set asks for. -/
theorem setChanged_pointsCauseExact (ids : List Nat) (s : State) : (s.setChanged ids).pointsCauseExact := by
  unfold State.setChanged
  simp only
  split
  case isTrue empty =>
    show false = !ids.isEmpty
    rw [empty]
    rfl
  case isFalse some =>
    show true = !ids.isEmpty
    simpa using some

theorem setChanged_table (ids : List Nat) (s : State) :
    (s.setChanged ids).table = { s.table with changedSet := ids } := by
  unfold State.setChanged
  simp only
  split <;> rfl

/-- An operation on the changed-point set leaves what the inhibit set hangs on. -/
theorem inhibitSetExact_of_table {s t : State} (hp : t.table.points = s.table.points)
    (hi : t.table.inhibitSet = s.table.inhibitSet) (exact : s.inhibitSetExact) : t.inhibitSetExact := by
  have point : ∀ id, t.point id = s.point id := point_of_table s t hp
  unfold State.inhibitSetExact at exact ⊢
  simp only [hi, point]
  exact exact

theorem addChanged_keepsSets (id : Nat) (s : State) : KeepsSets s (s.addChanged id) :=
  ⟨fun _ => addChanged_pointsCauseExact id s, inhibitSetExact_of_table rfl rfl⟩

theorem setChanged_keepsSets (ids : List Nat) (s : State) : KeepsSets s (s.setChanged ids) :=
  ⟨fun _ => setChanged_pointsCauseExact ids s, inhibitSetExact_of_table (by rw [setChanged_table])
    (by rw [setChanged_table])⟩

/-! ### The inhibit set (R39) -/

theorem refreshInhibit_sorted {s : State} (id : Nat) (h : s.table.inhibitSet.Pairwise (· < ·)) :
    (s.refreshInhibit id).table.inhibitSet.Pairwise (· < ·) := by
  unfold State.refreshInhibit
  split
  · split
    · exact h
    · exact insertId_sorted id _ h
  · exact removeId_sorted id _ h

theorem refreshInhibits_sorted (ids : List Nat) {s : State} (h : s.table.inhibitSet.Pairwise (· < ·)) :
    (ids.foldl (fun t id => t.refreshInhibit id) s).table.inhibitSet.Pairwise (· < ·) := by
  induction ids generalizing s with
  | nil => exact h
  | cons id rest ih => exact ih (refreshInhibit_sorted id h)

/-- The inhibit set is ascending and names ids of the table: what the applications of a frame start and the wake
transition keep of it until every record is brought up to date. -/
def InhibitsWithin (s : State) : Prop :=
  s.table.inhibitSet.Pairwise (· < ·) ∧ ∀ id ∈ s.table.inhibitSet, id < 384

theorem lt_of_inhibits {s : State} {id : Nat} (h : (s.point id).inhibits = true) : id < 384 := by
  refine lt_of_point_ne_vacant s id fun vacant => ?_
  rw [vacant] at h
  cases h

theorem inhibitsWithin_of_exact {s : State} (h : s.inhibitSetExact) : InhibitsWithin s := by
  obtain ⟨member, sorted⟩ := h
  exact ⟨sorted, fun id hid => lt_of_inhibits ((member id).1 hid)⟩

/-- R39: bringing every record up to date makes the set exact. -/
theorem refreshAllInhibits_exact {s : State} (h : InhibitsWithin s) : s.refreshAllInhibits.inhibitSetExact := by
  obtain ⟨sorted, within⟩ := h
  refine ⟨fun id => ?_, refreshInhibits_sorted tableIds sorted⟩
  rw [point_refreshAllInhibits]
  by_cases hid : id < 384
  · exact mem_refreshAllInhibits s id hid
  · have outside := mem_refreshInhibits tableIds s tableIds_nodup id
    rw [if_neg (fun h => hid ((mem_tableIds id).1 h))] at outside
    exact ⟨fun h => absurd (within id (outside.1 h)) hid, fun h => absurd (lt_of_inhibits h) hid⟩

/-! ### Changes of condition (R36, R39, R43) -/

theorem conditionChanged_inhibitSet (s : State) (id : Nat) (d : Definition) (c : Condition) :
    (s.conditionChanged id d c).table.inhibitSet = (s.refreshInhibit id).table.inhibitSet := by
  unfold State.conditionChanged State.noticeWake State.report State.noticeTrip
  simp only [State.takeWakeNotice]
  repeat' split
  all_goals rfl

theorem refreshInhibit_cause (s : State) (id : Nat) :
    (s.refreshInhibit id).table.changedSet = s.table.changedSet ∧ (s.refreshInhibit id).attention = s.attention := by
  unfold State.refreshInhibit
  split
  · split <;> exact ⟨rfl, rfl⟩
  · exact ⟨rfl, rfl⟩

/-- R44: of the consequences of a change of condition the report alone touches POINTS and the changed-point set. -/
theorem conditionChanged_cause (s : State) (id : Nat) (d : Definition) (c : Condition) (h : s.pointsCauseExact) :
    (s.conditionChanged id d c).pointsCauseExact := by
  have refreshed : (s.refreshInhibit id).pointsCauseExact := by
    obtain ⟨changed, attention⟩ := refreshInhibit_cause s id
    unfold State.pointsCauseExact at h ⊢
    rw [changed, attention, h]
  have tripped : ((s.refreshInhibit id).noticeTrip id d c).pointsCauseExact := by
    unfold State.noticeTrip
    split <;> exact refreshed
  have reported : (((s.refreshInhibit id).noticeTrip id d c).report id d).pointsCauseExact := by
    unfold State.report
    split
    · exact addChanged_pointsCauseExact id _
    · exact tripped
  unfold State.conditionChanged State.noticeWake
  split <;> exact reported

/-- R39: a point belongs in the set by its definition and its condition. -/
theorem inhibits_of_condition {d : Definition} {l l' : Live} {p : Option PendingPart}
    (h : l'.condition = l.condition) : (Point.live d l' p).inhibits = (Point.live d l p).inhibits := by
  simp only [Point.inhibits, h]

/-- R36, R39: a new live part with its consequences. -/
theorem setLive_exact {s : State} {id : Nat} {d : Definition} {l l' : Live} {p : Option PendingPart}
    (hp : s.point id = .live d l p) (exact : s.inhibitSetExact) : (s.setLive id d l l' p).inhibitSetExact := by
  obtain ⟨member, sorted⟩ := exact
  have hid : id < 384 := lt_of_point_ne_vacant s id (by simp [hp])
  have record : ∀ x, x ≠ id → (s.setPoint id (.live d l' p)).point x = s.point x := fun x hx => by
    rw [point_setPoint, if_neg (fun h => hx h.1)]
  have written : (s.setPoint id (.live d l' p)).point id = .live d l' p := by
    rw [point_setPoint, if_pos ⟨rfl, hid⟩]
  unfold State.setLive
  simp only
  split
  case isTrue same =>
    refine ⟨fun x => (member x).trans ?_, sorted⟩
    by_cases hx : x = id
    · rw [hx, written, hp, inhibits_of_condition same]
    · rw [record x hx]
  case isFalse =>
    have leads := conditionChanged_leads (s.setPoint id (.live d l' p)) id d l'.condition
    have points := point_of_table _ _ (conditionChanged_points (s.setPoint id (.live d l' p)) id d l'.condition)
    refine ⟨fun x => ?_, ?_⟩
    · rw [points x]
      by_cases hx : x = id
      · subst hx
        exact leads.member
      · rw [record x hx]
        exact (leads.others x hx).trans (member x)
    · rw [conditionChanged_inhibitSet]
      exact refreshInhibit_sorted id sorted

theorem setLive_keepsSets {s : State} {id : Nat} {d : Definition} {l l' : Live} {p : Option PendingPart}
    (hp : s.point id = .live d l p) : KeepsSets s (s.setLive id d l l' p) where
  inhibits := setLive_exact hp
  cause := fun h => by
    unfold State.setLive
    simp only
    split
    · exact h
    · exact conditionChanged_cause _ id d _ h

/-! ### Judgement (chapter 2) -/

theorem handReference_keepsSets (s : State) (id : Nat) (v : Int) : KeepsSets s (s.handReference id v) := by
  unfold State.handReference
  split
  · split <;> exact .same rfl
  · exact .refl s

theorem sample_keepsSets (s : State) (id : Nat) (v : Int) : KeepsSets s (s.sample id v) := by
  unfold State.sample
  split
  case h_1 live => exact (setLive_keepsSets live).trans (handReference_keepsSets _ id v)
  all_goals exact .refl s

theorem miss_keepsSets (s : State) (id : Nat) : KeepsSets s (s.miss id) := by
  unfold State.miss
  split
  case h_1 live => exact setLive_keepsSets live
  all_goals exact .refl s

theorem missAll_keepsSets (s : State) (ids : List Nat) : KeepsSets s (s.missAll ids) :=
  foldl_keepsSets _ miss_keepsSets ids s

theorem deliver_keepsSets (s : State) (ids : List Nat) (v : Option Int) : KeepsSets s (s.deliver ids v) := by
  cases v with
  | none => exact missAll_keepsSets s ids
  | some x => exact foldl_keepsSets _ (fun t id => sample_keepsSets t id x) ids s

theorem judgeAggregate_keepsSets (s : State) (id : Nat) : KeepsSets s (s.judgeAggregate id) := by
  unfold State.judgeAggregate
  split
  · split
    · exact sample_keepsSets ..
    · exact miss_keepsSets ..
  · exact .refl s

theorem judgeAggregates_keepsSets (s : State) (ids : List Nat) : KeepsSets s (s.judgeAggregates ids) :=
  foldl_keepsSets _ judgeAggregate_keepsSets ids s

theorem deliverChannel_keepsSets (s : State) (b : Block) (words : List Nat) (id : Nat) :
    KeepsSets s (s.deliverChannel b words id) := by
  unfold State.deliverChannel
  split
  · exact sample_keepsSets ..
  · exact miss_keepsSets ..

theorem giveRound_keepsSets (s : State) (b : Block) (words : Option (List Nat)) (ids : List Nat) :
    KeepsSets s (s.giveRound b words ids) := by
  unfold State.giveRound
  split
  · exact foldl_keepsSets _ (fun t id => deliverChannel_keepsSets t b _ id) ids s
  · exact missAll_keepsSets s ids

/-- A record written anew that belongs in the inhibit set exactly when the old one did. -/
theorem setPoint_keepsSets {s : State} {id : Nat} {p : Point} (h : p.inhibits = (s.point id).inhibits) :
    KeepsSets s (s.setPoint id p) where
  cause := fun exact => exact
  inhibits := fun ⟨member, sorted⟩ => by
    refine ⟨fun x => (member x).trans ?_, sorted⟩
    rw [point_setPoint]
    split
    case isTrue hx => rw [hx.1, h]
    case isFalse => rfl

/-- R35: a spot record is no change of condition, and the id joins the changed-point set. -/
theorem completeSpot_keepsSets (s : State) (id : Nat) (v : Option Int) : KeepsSets s (s.completeSpot id v) := by
  unfold State.completeSpot
  split
  case h_1 d l p live =>
    exact (setPoint_keepsSets (by rw [live]; exact inhibits_of_condition rfl)).trans (addChanged_keepsSets id _)
  all_goals exact .refl s

/-! ### The applications of a frame start and the wake transition (R14 to R16, R25, R176) -/

/-- `t` holds POINTS exact when `s` does, and an inhibit set that is ascending and within the table when `s` does. -/
structure KeepsWithin (s t : State) : Prop where
  cause : s.pointsCauseExact → t.pointsCauseExact
  within : InhibitsWithin s → InhibitsWithin t

theorem KeepsWithin.refl (s : State) : KeepsWithin s s := ⟨id, id⟩

theorem KeepsWithin.trans {s t u : State} (h : KeepsWithin s t) (k : KeepsWithin t u) : KeepsWithin s u :=
  ⟨k.cause ∘ h.cause, k.within ∘ h.within⟩

theorem foldl_keepsWithin {α : Type} (f : State → α → State) (h : ∀ s x, KeepsWithin s (f s x)) (xs : List α)
    (s : State) : KeepsWithin s (xs.foldl f s) := by
  induction xs generalizing s with
  | nil => exact .refl s
  | cons x rest ih => exact (h s x).trans (ih _)

/-- R39: with every record brought up to date the sets are exact again. -/
theorem KeepsWithin.refreshed {s t : State} (h : KeepsWithin s t) : KeepsSets s t.refreshAllInhibits where
  inhibits := fun exact => refreshAllInhibits_exact (h.within (inhibitsWithin_of_exact exact))
  cause := fun exact => by
    have refresh : ∀ (u : State) (id : Nat), u.pointsCauseExact → (u.refreshInhibit id).pointsCauseExact := by
      intro u id hu
      obtain ⟨changed, attention⟩ := refreshInhibit_cause u id
      unfold State.pointsCauseExact at hu ⊢
      rw [changed, attention, hu]
    exact List.foldlRecOn tableIds _ (h.cause exact) fun u hu id _ => refresh u id hu

theorem setPoint_keepsWithin (s : State) (id : Nat) (p : Point) : KeepsWithin s (s.setPoint id p) :=
  ⟨fun h => h, fun h => h⟩

theorem removeChanged_keepsWithin (s : State) (id : Nat) : KeepsWithin s (s.removeChanged id) := by
  unfold State.removeChanged
  split
  · refine ⟨fun _ => setChanged_pointsCauseExact _ s, fun h => ?_⟩
    unfold InhibitsWithin
    rw [setChanged_table]
    exact h
  · exact .refl s

theorem vacate_keepsWithin (s : State) (id : Nat) : KeepsWithin s (s.vacate id) := by
  unfold State.vacate
  simp only
  generalize hu : ({ s.setPoint id .vacant with
    table := { (s.setPoint id .vacant).table with
      inhibitSet := removeId id (s.setPoint id .vacant).table.inhibitSet } } : State) = u
  have left : KeepsWithin s u := by
    subst hu
    refine ⟨fun h => h, fun ⟨sorted, within⟩ => ⟨removeId_sorted id _ sorted, fun x hx => ?_⟩⟩
    exact within x ((mem_removeId id x _).1 hx).1
  exact (left.trans (removeChanged_keepsWithin u id)).trans ⟨fun h => h, fun h => h⟩

theorem applyPoint_keepsWithin (s : State) (id : Nat) : KeepsWithin s (s.applyPoint id) := by
  unfold State.applyPoint
  split
  · exact setPoint_keepsWithin ..
  · exact setPoint_keepsWithin ..
  · exact vacate_keepsWithin s id
  · exact .refl s
  · exact .refl s

theorem applyItem_keepsWithin (s : State) (x : Item) : KeepsWithin s (s.applyItem x) := by
  cases x with
  | point id d =>
    show KeepsWithin s (s.applyPointItem id d)
    unfold State.applyPointItem
    split <;> exact setPoint_keepsWithin ..
  | remove id => exact vacate_keepsWithin s id
  | group g =>
    refine foldl_keepsWithin _ (fun t id => ?_) tableIds s
    show KeepsWithin t (t.applyGroupAt g id)
    unfold State.applyGroupAt
    split
    · split
      · exact setPoint_keepsWithin ..
      · exact .refl t
    · exact .refl t
    · exact .refl t
  | profile p => exact ⟨id, id⟩
  | frame f => exact ⟨id, id⟩

theorem applyCommit_keepsWithin (s : State) : KeepsWithin s s.applyCommit := by
  unfold State.applyCommit
  split
  · exact (foldl_keepsWithin _ applyItem_keepsWithin s.engine.stage s).trans ⟨id, id⟩
  all_goals exact .refl s

/-- R55, R39: a frame start applies what waits and then brings the inhibit set up to date. -/
theorem opening_keepsSets (s : State) : KeepsSets s (opening s) := by
  have params : KeepsWithin s s.applyParams := by
    rw [applyParams_rest]
    exact ⟨id, id⟩
  have points := params.trans (foldl_keepsWithin _ applyPoint_keepsWithin tableIds s.applyParams)
  have o := opening_opensOn s
  exact (points.trans (applyCommit_keepsWithin _)).refreshed.trans (keepsSets_of_blocks o.table o.attention)

theorem wakePoint_keepsWithin (s : State) (id : Nat) : KeepsWithin s (s.wakePoint id) := by
  unfold State.wakePoint
  split
  · split
    · exact setPoint_keepsWithin ..
    · exact .refl s
  · exact .refl s
  · exact .refl s

/-- R25, R39: so does the wake transition. -/
theorem wakeTransition_keepsSets (s : State) : KeepsSets s s.wakeTransition :=
  (foldl_keepsWithin _ wakePoint_keepsWithin tableIds s).refreshed

end Sys2Proof.Proofs

/-! The sets of the Point Table and the cause POINTS, part 2: the Store, the Update Engine, the Contactor Sequencer, the
ring, and the running of frames and of the tail. -/

namespace Sys2Proof.Proofs

open Sys2Proof.Machine Sys2Proof.Laws

/-! ### The Store and the Update Engine (chapters 8 and 9) -/

theorem setBank_keepsSets (s : State) (b : BankId) (m : Memory) : KeepsSets s (s.setBank b m) :=
  keepsSets_of_blocks (setBank_table s b m) (setBank_attention s b m)

theorem setBankState_keepsSets (s : State) (b : BankId) (x : BankState) : KeepsSets s (s.setBankState b x) :=
  keepsSets_of_blocks (setBankState_table s b x) (setBankState_attention s b x)

theorem setCounterSlot_keepsSets (s : State) (i : SlotId) (x : SlotBytes) : KeepsSets s (s.setCounterSlot i x) :=
  keepsSets_of_blocks (setCounterSlot_table s i x) (setCounterSlot_attention s i x)

theorem setKeyCopy_keepsSets (s : State) (i : CopyId) (x : CopyBytes) : KeepsSets s (s.setKeyCopy i x) :=
  keepsSets_of_blocks (setKeyCopy_table s i x) (setKeyCopy_attention s i x)

theorem requestCounterWrite_keepsSets (s : State) (f : Bool) : KeepsSets s (s.requestCounterWrite f) :=
  keepsSets_of_blocks (requestCounterWrite_table s f) (requestCounterWrite_attention s f)

theorem startNextWrite_keepsSets (s : State) : KeepsSets s s.startNextWrite :=
  keepsSets_of_blocks (startNextWrite_table s) (startNextWrite_attention s)

theorem continueBankWrite_keepsSets (s : State) (w : BankWrite) : KeepsSets s (s.continueBankWrite w) :=
  keepsSets_of_blocks (continueBankWrite_table s w) (continueBankWrite_attention s w)

theorem startKeyWrite_keepsSets (s : State) (r : KeyRecord) (code : Byte) :
    KeepsSets s (s.startKeyWrite r code).1 := by
  unfold State.startKeyWrite
  split <;> exact .same rfl

/-- A cause other than POINTS. -/
theorem raiseIf_keepsSets (b : Bool) {c : CauseName} (h : c ≠ .points) (s : State) : KeepsSets s (s.raiseIf b c) := by
  unfold State.raiseIf
  split
  · cases c
    case points => exact absurd rfl h
    all_goals exact .same rfl
  · exact .refl s

theorem tamperAtEngine_keepsSets (s : State) : KeepsSets s s.tamperAtEngine := by
  rw [tamperAtEngine_eq]
  refine .trans (t := tampered s) (.same rfl) ?_
  unfold State.endTampered
  split <;> exact .same rfl

theorem verified_keepsSets (s : State) : KeepsSets s s.verified := by
  unfold State.verified
  split
  case h_1 =>
    split
    · exact .same rfl
    · split
      · exact .same rfl
      · exact keepsSets_of_blocks (requestBankWrite_table _ _) (requestBankWrite_attention _ _)
  all_goals exact .refl s

/-! ### The Contactor Sequencer (chapter 6) -/

theorem enterOpening_keepsSets (s : State) (c : Cause) : KeepsSets s (s.enterOpening c) := by
  unfold State.enterOpening State.countLoaded
  simp only
  split <;> exact .same rfl

theorem enterOpen_keepsSets (s : State) : KeepsSets s s.enterOpen := by
  rw [enterOpen_eq]
  exact .same rfl

theorem enterLockout_keepsSets (s : State) (c : LockoutCause) : KeepsSets s (s.enterLockout c) := by
  rw [enterLockout_eq]
  exact .same rfl

theorem enterClosed_keepsSets (s : State) : KeepsSets s s.enterClosed := by
  rw [enterClosed_eq]
  exact .same rfl

theorem lockoutAtRest_keepsSets (s : State) (c : LockoutCause) (last : Cause) : KeepsSets s (s.lockoutAtRest c last) :=
  (enterLockout_keepsSets _ c).before rfl

theorem unlessInhibited_keepsSets (s : State) (q : Sequencer) (go : State → State) (h : ∀ x, KeepsSets x (go x)) :
    KeepsSets s (({ s with seq := q } : State).unlessInhibited go) := by
  refine .trans (t := { s with seq := q }) (.same rfl) ?_
  unfold State.unlessInhibited
  split
  · exact h _
  · exact enterOpening_keepsSets ..

theorem recordOpen_keepsSets (s : State) (m : Main) (stamp : Word32) : KeepsSets s (s.recordOpen m stamp) := by
  unfold State.recordOpen
  split
  · exact .refl s
  · split
    · exact .refl s
    · split <;> split <;> exact .same rfl

theorem auxEdge_keepsSets (s : State) (m : Main) (closed : Bool) (stamp : Word32) :
    KeepsSets s (s.auxEdge m closed stamp) := by
  unfold State.auxEdge
  split
  case h_1 => exact lockoutAtRest_keepsSets ..
  case h_3 =>
    split
    · exact unlessInhibited_keepsSets s _ _ fun _ => .same rfl
    · exact enterOpening_keepsSets ..
  case h_10 =>
    split
    · exact unlessInhibited_keepsSets s _ _ enterClosed_keepsSets
    · exact enterOpening_keepsSets ..
  case h_18 => exact recordOpen_keepsSets ..
  case h_4 | h_6 | h_7 | h_11 | h_14 | h_16 => exact enterOpening_keepsSets ..
  all_goals exact .refl s

theorem auxChange_keepsSets (s : State) (m : Main) (x : Option (Bool × Word32)) : KeepsSets s (s.auxChange m x) := by
  unfold State.auxChange
  split
  · exact auxEdge_keepsSets ..
  · exact .refl s

theorem crashAtSequencer_keepsSets (s : State) : KeepsSets s s.crashAtSequencer := by
  unfold State.crashAtSequencer
  split
  case h_1 => exact lockoutAtRest_keepsSets ..
  case h_7 | h_8 => exact .same rfl
  all_goals exact enterOpening_keepsSets ..

theorem inhibitAtSequencer_keepsSets (s : State) (id : Nat) : KeepsSets s (s.inhibitAtSequencer id) := by
  unfold State.inhibitAtSequencer
  split
  case h_1 | h_2 | h_3 => exact enterOpening_keepsSets ..
  all_goals exact .refl s

theorem tripAtSequencer_keepsSets (s : State) (id : Nat) : KeepsSets s (s.tripAtSequencer id) := by
  unfold State.tripAtSequencer
  split
  case h_1 | h_2 | h_3 | h_4 | h_5 => exact enterOpening_keepsSets ..
  all_goals exact .refl s

theorem busSample_keepsSets (s : State) (v : Int) : KeepsSets s (s.busSample v) := by
  unfold State.busSample
  split
  · exact .refl s
  · split
    · simp only
      split
      · exact enterOpening_keepsSets ..
      · exact unlessInhibited_keepsSets s _ _ fun _ => .same rfl
    · exact .refl s

theorem referenceAtSequencer_keepsSets (s : State) (id : Nat) (v : Int) :
    KeepsSets s (s.referenceAtSequencer id v) := by
  unfold State.referenceAtSequencer
  split
  case h_1 =>
    split
    · exact busSample_keepsSets s v
    · exact .refl s
  case h_2 =>
    split
    · exact enterOpening_keepsSets ..
    · exact .refl s
  all_goals exact .refl s

theorem auxConfirmExpired_keepsSets (s : State) : KeepsSets s s.auxConfirmExpired := by
  unfold State.auxConfirmExpired
  split
  · exact enterOpening_keepsSets ..
  · exact enterOpening_keepsSets ..
  · exact .refl s

theorem prechargeExpired_keepsSets (s : State) : KeepsSets s s.prechargeExpired := by
  unfold State.prechargeExpired
  split
  · exact enterOpening_keepsSets ..
  · exact .refl s

theorem deferExpired_keepsSets (s : State) : KeepsSets s s.deferExpired := by
  unfold State.deferExpired
  split
  · exact enterOpening_keepsSets ..
  · exact .refl s

theorem dropoutExpired_keepsSets (s : State) : KeepsSets s s.dropoutExpired := by
  unfold State.dropoutExpired
  split
  · split
    · exact enterLockout_keepsSets ..
    · split
      · exact enterLockout_keepsSets ..
      · split
        · exact enterLockout_keepsSets ..
        · exact enterOpen_keepsSets s
  · exact .refl s

theorem openFromClosed_keepsSets (s : State) : KeepsSets s s.openFromClosed := by
  have deferred : KeepsSets s s.enterDeferring := .same rfl
  unfold State.openFromClosed
  split
  · exact enterOpening_keepsSets ..
  · split
    · exact deferred.trans (deferExpired_keepsSets _)
    · exact deferred

/-! A notice that is taken leaves the queue of notices (R40), which the sets do not hang on. -/

theorem deliverInhibit_keepsSets (s : State) : KeepsSets s s.deliverInhibit := by
  unfold State.deliverInhibit
  split
  · exact (inhibitAtSequencer_keepsSets s.dropNotice _).before rfl
  all_goals exact .refl s

theorem deliverTrip_keepsSets (s : State) : KeepsSets s s.deliverTrip := by
  unfold State.deliverTrip
  split
  · exact (tripAtSequencer_keepsSets s.dropNotice _).before rfl
  all_goals exact .refl s

theorem deliverReference_keepsSets (s : State) : KeepsSets s s.deliverReference := by
  unfold State.deliverReference
  split
  · exact (referenceAtSequencer_keepsSets s.dropNotice _ _).before rfl
  all_goals exact .refl s

/-! ### The ring and the converters (chapters 4 and 5) -/

theorem setCapture_keepsSets (s : State) (c : Converter) (x : Option Capture) : KeepsSets s (s.setCapture c x) := by
  cases c <;> exact .same rfl

theorem captureSpot_keepsSets (s : State) (id : Nat) (c : Converter) : KeepsSets s (s.captureSpot id c) := by
  unfold State.captureSpot
  split <;> exact setCapture_keepsSets ..

theorem captureFor_keepsSets (s : State) (ids : List Nat) (c : Converter) : KeepsSets s (s.captureFor ids c) := by
  unfold State.captureFor
  split
  · exact .refl s
  · exact setCapture_keepsSets ..

theorem captureRound_keepsSets (s : State) (ids : List Nat) : KeepsSets s (s.captureRound ids) :=
  ((captureFor_keepsSets s ids .shuntCurrent).trans (captureFor_keepsSets _ ids .packVoltage)).trans
    (captureFor_keepsSets _ ids .busVoltage)

theorem takeFaultBit_keepsSets (s : State) (a : Nat) (fault : Bool) : KeepsSets s (s.takeFaultBit a fault) := by
  unfold State.takeFaultBit
  split <;> exact .same rfl

theorem countRound_keepsSets (s : State) (r : Round) : KeepsSets s (s.countRound r) := by
  refine foldl_keepsSets _ (fun t a => ?_) r.monitors s
  show KeepsSets t (t.countMonitor r a)
  unfold State.countMonitor
  simp only
  split
  · split <;> exact .same rfl
  · split <;> exact .same rfl

theorem beginRound_keepsSets (s : State) (b : Bool) (ids : List Nat) (reach : Nat → Bool) :
    KeepsSets s (s.beginRound b ids reach) := by
  have missed := missAll_keepsSets s (ids.filter (fun id => (s.readEntry? id).any (fun e => !reach e.1)))
  unfold State.beginRound
  simp only
  split
  · exact missed
  · exact missed.after rfl

/-! ### Frames and the tail (R55 to R67) -/

theorem quietCheck_keepsSets (s : State) : KeepsSets s s.quietCheck := by
  rw [quietCheck_rest]
  exact .same rfl

theorem stopFrames_keepsSets (s : State) : KeepsSets s s.stopFrames := by
  rw [stopFrames_eq]
  exact (quietCheck_keepsSets (framesStopped s)).before rfl

theorem serve_keepsSets (s : State) (x : TailItem) : KeepsSets s (Service.state (s.serve x)) := by
  unfold State.serve
  split
  · split
    · unfold State.serveSpot
      split
      · exact captureSpot_keepsSets ..
      · split
        · exact .same rfl
        · exact completeSpot_keepsSets ..
      · exact completeSpot_keepsSets ..
    · exact .refl s
  · unfold State.serveMstat
    split <;> exact .same rfl

theorem serveTail_keepsSets (n : Nat) (s : State) : KeepsSets s (s.serveTail n) := by
  induction n generalizing s with
  | zero => exact .refl s
  | succ n ih =>
    unfold State.serveTail
    split
    case h_1 => exact .refl s
    case h_2 x _ _ =>
      have served := serve_keepsSets s x
      split
      case isFalse => exact .refl s
      case isTrue =>
        split
        case h_1 t ht =>
          rw [ht] at served
          exact served.after (t := t) rfl
        case h_2 t ht =>
          rw [ht] at served
          exact served.trans ((ih t.popTail).before rfl)

theorem runTail_keepsSets (s : State) : KeepsSets s s.runTail := serveTail_keepsSets _ s

theorem tailCompleted_keepsSets (s : State) : KeepsSets s s.tailCompleted :=
  (runTail_keepsSets s.popTail).before rfl

theorem joinTail_keepsSets (s : State) (x : TailItem) : KeepsSets s (s.joinTail x) := by
  unfold State.joinTail
  exact (runTail_keepsSets _).before rfl

theorem frameClose_keepsSets (s : State) : KeepsSets s s.frameClose := by
  unfold State.frameClose
  simp only
  refine (judgeAggregates_keepsSets s s.dueAggregates).trans ?_
  generalize s.judgeAggregates s.dueAggregates = t
  split
  · exact stopFrames_keepsSets t
  · exact (runTail_keepsSets (t.setPhase .tail)).before rfl

theorem roundEnded_keepsSets (s : State) (k : Nat) : KeepsSets s (s.roundEnded k) := by
  unfold State.roundEnded
  split
  · exact frameClose_keepsSets s
  · exact .same rfl

theorem startSlot_keepsSets (s : State) (k : Nat) : KeepsSets s (s.startSlot k) := by
  unfold State.startSlot
  simp only
  refine ((captureRound_keepsSets (s.setPhase (.slot k true)) (s.slotPoints k)).before (s := s) rfl).trans ?_
  generalize (s.setPhase (.slot k true)).captureRound (s.slotPoints k) = t
  generalize (s.slotPoints k).filter (fun id => (s.readEntry? id).isSome) = chainIds
  have begun : KeepsSets t (if t.clock.given then t.missAll chainIds else t.beginRound false chainIds t.readable) := by
    split
    · exact missAll_keepsSets t chainIds
    · exact beginRound_keepsSets t false chainIds t.readable
  refine begun.trans ?_
  generalize (if t.clock.given then t.missAll chainIds else t.beginRound false chainIds t.readable) = u
  split
  · exact .refl u
  · exact roundEnded_keepsSets u k

theorem overrun_keepsSets (s : State) : KeepsSets s s.overrun := by
  cases h : s.chain.round with
  | none =>
    rw [overrun_none h]
    exact .refl s
  | some r =>
    rw [overrun_eq h]
    have missed := missAll_keepsSets { s with chain := { s.chain with round := none, read := none } }
      (s.dependents r.queue r.points)
    have given : KeepsSets s (givenUp r s) := (missed.before (s := s) rfl).after rfl
    exact given.trans (countRound_keepsSets (givenUp r s) r)

theorem endFrame_keepsSets (s : State) : KeepsSets s s.endFrame := by
  unfold State.endFrame
  split
  · exact (overrun_keepsSets s).trans (judgeAggregates_keepsSets ..)
  · rw [cutTail_rest]
    exact .same rfl
  · exact .refl s

theorem frameStart_keepsSets (s : State) : KeepsSets s s.frameStart := by
  unfold State.frameStart
  simp only
  refine (endFrame_keepsSets s).trans ?_
  split
  · exact stopFrames_keepsSets _
  · exact (opening_keepsSets s.endFrame).trans (startSlot_keepsSets (opening s.endFrame) 0)

theorem frameTimerExpired_keepsSets (s : State) : KeepsSets s s.frameTimerExpired := by
  unfold State.frameTimerExpired
  split
  · exact frameStart_keepsSets s
  · split
    · exact frameStart_keepsSets s
    · exact .refl s
  · exact .refl s
  · exact .refl s

theorem slotInstantReached_keepsSets (s : State) : KeepsSets s s.slotInstantReached := by
  unfold State.slotInstantReached
  split
  · split
    · exact (overrun_keepsSets s).trans (startSlot_keepsSets ..)
    · exact .refl s
  · exact .refl s
  · exact .refl s

theorem captureDelivered_keepsSets (s : State) (c : Converter) (reading : Int) :
    KeepsSets s (s.captureDelivered c reading) := by
  unfold State.captureDelivered
  split
  case h_1 => exact .refl s
  case h_2 x _ =>
    simp only
    have delivered : KeepsSets s ((s.setCapture c none).deliver x.ids (convertedValue c reading)) :=
      (setCapture_keepsSets s c none).trans (deliver_keepsSets ..)
    split
    · exact (delivered.trans (completeSpot_keepsSets ..)).trans (tailCompleted_keepsSets _)
    · exact delivered

end Sys2Proof.Proofs

/-! The sets of the Point Table and the cause POINTS, part 3: the moves of the Power Manager, the ends of reads, of
enumerations and of the Store's writes, the host port, every command, and the step. -/

namespace Sys2Proof.Proofs

open Sys2Proof.Machine Sys2Proof.Laws

/-! ### The moves of the Power Manager (R128, R129, R133 to R145) -/

/-- R128, R193: at the entry to LOADING both sets are empty and POINTS is down. -/
theorem enterLoading_keepsSets (c : StartCause) (s : State) : KeepsSets s (s.enterLoading c) :=
  .of_exact rfl (inhibitSetExact_of_table (s := State.reset) rfl rfl reset_inhibitSetExact)

theorem losePower_keepsSets (s : State) : KeepsSets s s.losePower :=
  .of_exact rfl (inhibitSetExact_of_table (s := State.reset) rfl rfl reset_inhibitSetExact)

theorem gainPower_keepsSets (s : State) : KeepsSets s s.gainPower := (losePower_keepsSets s).after rfl

theorem afterWrite_keepsSets (s : State) : KeepsSets s s.afterWrite := by
  unfold State.afterWrite
  split
  · exact enterLoading_keepsSets .reset s
  · exact .refl s

theorem enterActive_keepsSets (s : State) : KeepsSets s s.enterActive :=
  (frameStart_keepsSets (s.setPower .active)).before rfl

theorem gather_keepsSets (s : State) (c : WakeName) : KeepsSets s (s.gather c) := by
  obtain ⟨_, _, _, attention, _, _, table⟩ := gather_keeps s c
  exact keepsSets_of_blocks table attention

theorem awakened_keepsSets (t : State) : KeepsSets t (awakened t) := .same rfl

theorem finishWaking_keepsSets (s : State) : KeepsSets s s.finishWaking := by
  rw [finishWaking_frameStart]
  exact ((wakeTransition_keepsSets s).trans (awakened_keepsSets _)).trans (frameStart_keepsSets _)

theorem settlingDecision_keepsSets (s : State) : KeepsSets s s.settlingDecision := by
  unfold State.settlingDecision
  split
  · split
    · exact .same rfl
    · exact (enterActive_keepsSets _).before rfl
  · exact .refl s

theorem sleepTimerExpired_keepsSets (s : State) : KeepsSets s s.sleepTimerExpired := by
  unfold State.sleepTimerExpired
  split <;> exact .same rfl

theorem sleepRoundEnded_keepsSets (s : State) : KeepsSets s s.sleepRoundEnded := by
  unfold State.sleepRoundEnded
  simp only
  refine (judgeAggregates_keepsSets s s.dueSleepAggregates).trans ?_
  split <;> exact .same rfl

theorem startSleepRound_keepsSets (s : State) (found : Nat) : KeepsSets s (s.startSleepRound found) := by
  unfold State.startSleepRound
  simp only
  have begun := (captureRound_keepsSets s s.sleepPoints).trans (beginRound_keepsSets _ true
    (s.sleepPoints.filter (fun id => (s.readEntry? id).isSome)) (fun a => decide (a < found) && s.readable a))
  split
  · exact begun
  · exact begun.trans (sleepRoundEnded_keepsSets _)

theorem sleepEnumerationEnded_keepsSets (s : State) (found : Nat) : KeepsSets s (s.sleepEnumerationEnded found) := by
  unfold State.sleepEnumerationEnded
  simp only
  split <;> exact (startSleepRound_keepsSets _ found).before rfl

/-! ### The ends of rounds, reads and enumerations -/

theorem finishRound_keepsSets (s : State) (r : Round) : KeepsSets s (s.finishRound r) := by
  have counted := countRound_keepsSets { s with chain := { s.chain with round := none } } r
  unfold State.finishRound
  simp only
  refine (counted.before (s := s) rfl).trans ?_
  generalize State.countRound r { s with chain := { s.chain with round := none } } = t
  split
  · exact sleepRoundEnded_keepsSets t
  · split
    · exact roundEnded_keepsSets t _
    · exact .refl t
    · exact .refl t

theorem roundReadEnded_keepsSets (s : State) (words : Option (List Nat)) : KeepsSets s (s.roundReadEnded words) := by
  unfold State.roundReadEnded
  split
  case h_1 => exact .refl s
  case h_2 r _ =>
    split
    case h_1 => exact .refl s
    case h_2 e rest _ =>
      simp only
      refine (giveRound_keepsSets s e.2 words (s.dependents [e] r.points)).trans ?_
      split
      · exact finishRound_keepsSets ..
      · exact .same rfl

theorem mstatReadEnded_keepsSets (s : State) (r : Read) (words : Option (List Nat)) :
    KeepsSets s (s.mstatReadEnded r words) := by
  unfold State.mstatReadEnded
  simp only
  refine .trans ?_ (tailCompleted_keepsSets _)
  split <;> exact .same rfl

theorem readEnded_keepsSets (s : State) (r : Read) (words : Option (List Nat)) :
    KeepsSets s (s.readEnded r words) := by
  unfold State.readEnded
  simp only
  refine .trans (t := s.abandonRead) (.same rfl) ?_
  split
  · exact roundReadEnded_keepsSets _ words
  · exact (completeSpot_keepsSets ..).trans (tailCompleted_keepsSets _)
  · exact mstatReadEnded_keepsSets _ r words

theorem attemptFailed_keepsSets (s : State) (r : Read) (k : FailureKind) : KeepsSets s (s.attemptFailed r k) := by
  unfold State.attemptFailed
  simp only
  split
  · exact .same rfl
  · exact (readEnded_keepsSets _ r none).before rfl

theorem takeReply_keepsSets (s : State) (r : Read) (m : List Byte) : KeepsSets s (s.takeReply r m) := by
  unfold State.takeReply
  simp only
  refine (takeFaultBit_keepsSets s r.address (checkReply r s.chain.tag m).fault).trans ?_
  split
  case h_4 => exact readEnded_keepsSets ..
  all_goals exact attemptFailed_keepsSets ..

theorem readWaitExpired_keepsSets (s : State) : KeepsSets s s.readWaitExpired := by
  unfold State.readWaitExpired
  split
  · exact attemptFailed_keepsSets ..
  · exact .refl s

theorem upMessage_keepsSets (s : State) (m : List Byte) : KeepsSets s (s.upMessage m) := by
  unfold State.upMessage
  split
  · exact takeReply_keepsSets ..
  · split
    · split <;> exact .same rfl
    · exact .refl s

theorem enumDelayExpired_keepsSets (s : State) : KeepsSets s s.enumDelayExpired := by
  unfold State.enumDelayExpired
  split
  · split <;> exact .same rfl
  · exact .refl s

theorem afterDiscovery_keepsSets (s : State) : KeepsSets s s.afterDiscovery := by
  unfold State.afterDiscovery
  split
  case h_1 => exact enterActive_keepsSets s
  case h_2 => exact finishWaking_keepsSets s
  case h_3 => exact quietCheck_keepsSets s
  case h_4 => exact runTail_keepsSets s
  all_goals exact .refl s

theorem discoveryEnded_keepsSets (s : State) (cause : DiscoveryCause) (f c : Nat) :
    KeepsSets s (s.discoveryEnded cause f c) :=
  ((raiseIf_keepsSets _ (c := .chain) nofun (s.rebuildRoster cause f c)).trans (afterDiscovery_keepsSets _)).before rfl

theorem enumSilenceExpired_keepsSets (s : State) : KeepsSets s s.enumSilenceExpired := by
  unfold State.enumSilenceExpired
  split
  · split
    · split
      · exact discoveryEnded_keepsSets ..
      · exact sleepEnumerationEnded_keepsSets ..
    · exact .refl s
  · exact .refl s

/-! ### Line samples and the load (R93 to R100, R128, R157 to R160) -/

theorem lineEvents_keepsSets (s : State) (x : LineChanges) : KeepsSets s (s.lineEvents x) := by
  have aux := (auxChange_keepsSets s .neg x.auxNeg).trans (auxChange_keepsSets _ .pos x.auxPos)
  have crash := onHigh_keeps (KeepsSets s) x.crash State.crashEvent _ aux fun t h =>
    (h.trans (crashAtSequencer_keepsSets t)).trans (gather_keepsSets _ .crash)
  have wake := onHigh_keeps (KeepsSets s) x.wake (fun t => t.gather .line) _ crash fun t h =>
    h.trans (gather_keepsSets t .line)
  exact onHigh_keeps (KeepsSets s) x.lid State.tamperEvent _ wake fun t h =>
    (h.trans (tamperAtEngine_keepsSets t)).trans (gather_keepsSets _ .tamper)

theorem checkLoadingEnd_keepsSets (s : State) : KeepsSets s s.checkLoadingEnd := by
  unfold State.checkLoadingEnd
  split
  · exact (lineEvents_keepsSets _ _).before rfl
  · exact .refl s

theorem sampleLines_keepsSets (s : State) (l : LineLevels) : KeepsSets s (s.sampleLines l) := by
  refine .trans (t := stagesMoved l s) (.same rfl) ?_
  by_cases loading : s.power.state = .loading
  · rw [sampleLines_loading l loading]
    exact checkLoadingEnd_keepsSets _
  · rw [sampleLines_awake l loading]
    exact lineEvents_keepsSets ..

theorem passTime_keepsSets (s : State) : KeepsSets s s.passTime := by
  unfold State.passTime
  split
  · exact sampleLines_keepsSets ..
  · exact .same rfl

/-- R24, R44: the blocks are built with a derived inhibit set and an empty changed-point set. -/
theorem build_keepsSets (s : State) : KeepsSets s s.build := by
  refine .of_exact (setChanged_pointsCauseExact [] _) ⟨fun id => ?_, ?_⟩
  · rw [build_inhibitSet, mem_idsWhere]
    exact ⟨And.right, fun h => ⟨lt_of_inhibits h, h⟩⟩
  · rw [build_inhibitSet]
    exact idsWhere_sorted _

theorem endLoad_keepsSets (s : State) : KeepsSets s s.endLoad := by
  unfold State.endLoad
  simp only
  refine .trans ?_ (raiseIf_keepsSets _ (c := .update) nofun _)
  refine .trans ?_ (raiseIf_keepsSets _ (c := .store) nofun _)
  exact ((build_keepsSets { s with store := s.store.loaded }).before (s := s) rfl).after rfl

theorem loadEnded_keepsSets (s : State) : KeepsSets s s.loadEnded := by
  unfold State.loadEnded
  split
  · exact (endLoad_keepsSets s).trans (checkLoadingEnd_keepsSets _)
  · exact .refl s

/-! ### The ends of the Store's writes (R153, R154, R156) -/

/-- What follows a write that has ended: the next holder of the arbiter, and the start of a held RESET. -/
theorem nextWrite_keepsSets (s : State) : KeepsSets s s.startNextWrite.afterWrite :=
  (startNextWrite_keepsSets s).trans (afterWrite_keepsSets _)

theorem counterWriteEnded_keepsSets (s : State) (b : Bool) : KeepsSets s (s.counterWriteEnded b) := by
  unfold State.counterWriteEnded
  split
  case h_1 w _ =>
    simp only
    have ended : KeepsSets s (if b then s.counterStored w else s.counterLost w) := by
      split <;> exact (setCounterSlot_keepsSets s w.slot _).after rfl
    generalize (if b then s.counterStored w else s.counterLost w) = t at ended
    refine (ended.trans ?_).trans (nextWrite_keepsSets _)
    split
    · exact settlingDecision_keepsSets t
    · exact .refl t
  all_goals exact .refl s

theorem bankUnitEnded_keepsSets (s : State) (b : Bool) : KeepsSets s (s.bankUnitEnded b) := by
  unfold State.bankUnitEnded
  split
  case h_1 w _ =>
    simp only
    refine (setBank_keepsSets s w.target (w.work b (s.bank w.target))).trans ?_
    generalize s.setBank w.target (w.work b (s.bank w.target)) = t
    split
    · exact continueBankWrite_keepsSets ..
    · exact ((setBankState_keepsSets t w.target .valid).after (u := t.commitWritten w) rfl).trans
        (nextWrite_keepsSets _)
    · exact ((setBankState_keepsSets t w.target .empty).after (u := t.commitFailed w) rfl).trans
        (nextWrite_keepsSets _)
  all_goals exact .refl s

theorem keyWriteEnded_keepsSets (s : State) (b : Bool) : KeepsSets s (s.keyWriteEnded b) := by
  have answered : ∀ (t : State) (w : KeyWrite), KeepsSets t (t.answerKeyWrite w b) := by
    intro t w
    unfold State.answerKeyWrite
    split <;> exact .same rfl
  unfold State.keyWriteEnded
  split
  case h_1 w _ =>
    simp only
    refine .trans (.trans ?_ (answered _ w)) (nextWrite_keepsSets _)
    split <;> exact (setKeyCopy_keepsSets s w.copy _).after rfl
  all_goals exact .refl s

/-! ### The host port (R147, R148, R185 to R189) -/

theorem beginReset_keepsSets (s : State) : KeepsSets s s.beginReset := by
  unfold State.beginReset
  split
  · exact .same rfl
  · exact enterLoading_keepsSets .reset s

theorem beginWrite_keepsSets (s : State) : KeepsSets s s.beginWrite := by
  have emptied : ∀ t : State, KeepsSets t t.emptySlotAwake := by
    intro t
    unfold State.emptySlotAwake
    split <;> exact .same rfl
  unfold State.beginWrite
  simp only
  split
  · exact ((emptied (s.shiftOut (idleBytes 1))).before (s := s) rfl).after rfl
  · exact (beginReset_keepsSets _).before rfl
  · exact .same rfl

/-- A write transaction keeps of the sets what its request keeps. -/
theorem endWrite_keepsSets (s : State) (n : Nat) (act : State → State) (hact : ∀ t, KeepsSets t (act t)) :
    KeepsSets s (s.endWrite n act) := by
  have begun : KeepsSets s s.ensureBegun := by
    unfold State.ensureBegun
    split
    · exact beginWrite_keepsSets s
    · exact .refl s
    · exact .refl s
  unfold State.endWrite
  simp only
  have ended : KeepsSets s ((s.ensureBegun.setWriteTx .none).shiftOut (idleBytes n)) := begun.after rfl
  split
  · exact ended
  · exact ended.trans (hact _)

theorem portAnswer_keepsSets (s : State) (code : Byte) (a : AnswerCode) : KeepsSets s (s.portAnswer code a) := by
  unfold State.portAnswer
  split <;> exact .same rfl

theorem badFrame_keepsSets (s : State) (frame : List Byte) : KeepsSets s (s.badFrame frame) := by
  unfold State.badFrame
  split
  · exact .refl s
  · split
    · exact endWrite_keepsSets s _ _ fun t => portAnswer_keepsSets t _ _
    · exact .refl s

theorem unknownCode_keepsSets (s : State) (code : Byte) (body : List Byte) :
    KeepsSets s (s.unknownCode code body) := by
  unfold State.unknownCode
  split
  · exact .refl s
  · exact endWrite_keepsSets s _ _ fun t => portAnswer_keepsSets t _ _

theorem readOut_keepsSets (s : State) (n : Nat) : KeepsSets s (s.readOut n) := by
  unfold State.readOut
  split
  · exact .refl s
  · simp only
    split
    · exact (beginReset_keepsSets _).before rfl
    · exact .same rfl

theorem takeRequest_keepsSets (s : State) (code : Byte) (ok : Bool) (owner : State → State × Reply)
    (hown : ∀ t, KeepsSets t (owner t).1) : KeepsSets s (takeRequest code ok owner s) := by
  have replied : ∀ (t : State) (r : Reply), KeepsSets t (t.placeReply code r) := by
    intro t r
    cases r <;> exact .same rfl
  unfold takeRequest
  split
  · exact .refl s
  · exact .same rfl
  · split
    · exact (hown s).trans (replied _ _)
    · exact .same rfl

/-! ### The owners of the requests -/

theorem withId_keepsSets (b : List Byte) (owner : Nat → State → State × Reply)
    (h : ∀ id s, KeepsSets s (owner id s).1) (s : State) : KeepsSets s (withId b owner s).1 := by
  unfold withId
  split
  · exact h _ s
  · exact .refl s

/-- A test behind which an owner leaves the part alone: mostly a refusal. -/
theorem unless_keepsSets {s : State} {p : Prop} [Decidable p] {a : Reply} {y : State × Reply} (h : KeepsSets s y.1) :
    KeepsSets s (if p then (s, a) else y).1 := by
  split
  · exact .refl s
  · exact h

/-- R39: a point that becomes ENLISTING belongs in the inhibit set as little as a VACANT one. -/
theorem takeEnlist_keepsSets (b : List Byte) (id : Nat) (s : State) : KeepsSets s (takeEnlist b id s).1 := by
  unfold takeEnlist
  split
  case isTrue => exact .refl s
  case isFalse free =>
    have vacant : s.point id = .vacant := (isVacant_iff _).1 (by simpa using free)
    refine unless_keepsSets ?_
    split
    · exact .refl s
    · exact unless_keepsSets (unless_keepsSets (setPoint_keepsSets (by rw [vacant]; rfl)))

/-- R39: a pending part changes nothing of what belongs in the inhibit set. -/
theorem takeAmend_keepsSets (b : List Byte) (id : Nat) (s : State) : KeepsSets s (takeAmend b id s).1 := by
  unfold takeAmend
  split
  case h_3 live =>
    refine unless_keepsSets (unless_keepsSets ?_)
    split
    · exact .refl s
    · exact unless_keepsSets (unless_keepsSets (unless_keepsSets (setPoint_keepsSets (by rw [live]; rfl))))
  all_goals exact .refl s

theorem takeAmendg_keepsSets (b : List Byte) (s : State) : KeepsSets s (takeAmendg b s).1 := by
  have merged : ∀ (c : Change) (t : State) (id : Nat), KeepsSets t (t.mergeAt c id) := by
    intro c t id
    unfold State.mergeAt
    split
    case h_1 live => exact setPoint_keepsSets (by rw [live]; rfl)
    all_goals exact .refl t
  unfold takeAmendg
  split
  · exact .refl s
  · exact unless_keepsSets (unless_keepsSets (foldl_keepsSets _ (merged _) _ s))

theorem takeRetire_keepsSets (id : Nat) (s : State) : KeepsSets s (takeRetire id s).1 := by
  unfold takeRetire
  split
  case h_3 live =>
    exact unless_keepsSets (unless_keepsSets (unless_keepsSets (unless_keepsSets (unless_keepsSets
      (setPoint_keepsSets (by rw [live]; rfl))))))
  all_goals exact .refl s

theorem takeRelease_keepsSets (id : Nat) (s : State) : KeepsSets s (takeRelease id s).1 := by
  unfold takeRelease
  split
  case h_3 live => exact unless_keepsSets (unless_keepsSets (setLive_keepsSets live))
  all_goals exact .refl s

theorem takeMstat_keepsSets (b : List Byte) (s : State) : KeepsSets s (takeMstat b s).1 := by
  unfold takeMstat
  split
  · exact .refl s
  · exact unless_keepsSets (unless_keepsSets (unless_keepsSets (joinTail_keepsSets ..)))

theorem takeOpen_keepsSets (s : State) : KeepsSets s (takeOpen s).1 := by
  unfold takeOpen
  split
  case h_1 => exact openFromClosed_keepsSets s
  case h_2 | h_3 | h_4 => exact enterOpening_keepsSets ..
  all_goals exact .refl s

theorem takeTrip_keepsSets (s : State) : KeepsSets s (takeTrip s).1 := by
  unfold takeTrip
  split
  case h_1 | h_2 | h_3 | h_4 | h_5 => exact enterOpening_keepsSets ..
  all_goals exact .refl s

theorem enterSettling_keepsSets (s : State) : KeepsSets s s.enterSettling := by
  have settled : KeepsSets s (settling s) := by
    refine .trans (t := { s with power := { s.power with state := .settling, wakeSet := .none, quiet := false } })
      (.same rfl) ?_
    unfold settling State.abandonStaging
    split <;> exact .same rfl
  show KeepsSets s (match (settling s).clock.phase with
    | .tail => (settling s).stopFrames
    | .slot _ _ => settling s
    | .stopped => (settling s).quietCheck)
  split
  · exact settled.trans (stopFrames_keepsSets _)
  · exact settled
  · exact settled.trans (quietCheck_keepsSets _)

theorem takeWake_keepsSets (s : State) : KeepsSets s (takeWake s).1 := by
  unfold takeWake
  split
  case h_2 | h_3 | h_4 => exact gather_keepsSets s .request
  all_goals exact .refl s

theorem takeUstage_keepsSets (b : List Byte) (s : State) : KeepsSets s (takeUstage b s).1 := by
  refine unless_keepsSets ?_
  split
  · exact .refl s
  · exact unless_keepsSets (unless_keepsSets (unless_keepsSets (.same rfl)))

theorem takeUcommit_keepsSets (b : List Byte) (s : State) : KeepsSets s (takeUcommit b s).1 := by
  unfold takeUcommit
  split
  case h_2 => exact unless_keepsSets (unless_keepsSets (.same rfl))
  all_goals exact .refl s

theorem takeUabandon_keepsSets (s : State) : KeepsSets s (takeUabandon s).1 := by
  unfold takeUabandon
  split <;> exact .same rfl

theorem writeKey_keepsSets (r : KeyRecord) (code : Byte) (s : State) : KeepsSets s (writeKey r code s).1 := by
  unfold writeKey
  simp only
  split <;> exact startKeyWrite_keepsSets s r code

/-! ### Every command and every step -/

/-- Every request goes its way to an owner that keeps the sets exact. -/
theorem exec_request_keepsSets {c : Instr} {code : Byte} {body : List Byte} (h : c.request? = some (code, body)) :
    ∃ ok owner, (∀ s, exec c s = request code body ok owner s) ∧ ∀ s, KeepsSets s (owner s).1 := by
  cases c <;> cases h
  case enlist => exact ⟨_, _, fun _ => rfl, withId_keepsSets _ _ (takeEnlist_keepsSets body)⟩
  case lookup => exact ⟨_, _, fun _ => rfl, withId_keepsSets _ _ fun _ s => unless_keepsSets (.refl s)⟩
  case amend => exact ⟨_, _, fun _ => rfl, withId_keepsSets _ _ (takeAmend_keepsSets body)⟩
  case amendg => exact ⟨_, _, fun _ => rfl, takeAmendg_keepsSets body⟩
  case retire => exact ⟨_, _, fun _ => rfl, withId_keepsSets _ _ takeRetire_keepsSets⟩
  case release => exact ⟨_, _, fun _ => rfl, withId_keepsSets _ _ takeRelease_keepsSets⟩
  case changes => exact ⟨_, _, fun _ => rfl, fun s => setChanged_keepsSets _ s⟩
  case qinhib => exact ⟨_, _, fun _ => rfl, fun s => unless_keepsSets (.refl s)⟩
  case setfrm =>
    exact ⟨_, _, fun _ => rfl, fun s => unless_keepsSets (unless_keepsSets (unless_keepsSets (.same rfl)))⟩
  case qfrm => exact ⟨_, _, fun _ => rfl, fun _ => .same rfl⟩
  case spot =>
    exact ⟨_, _, fun _ => rfl, withId_keepsSets _ _ fun _ s => unless_keepsSets (unless_keepsSets (unless_keepsSets
      (unless_keepsSets (joinTail_keepsSets ..))))⟩
  case discov => exact ⟨_, _, fun _ => rfl, fun s => unless_keepsSets (.same rfl)⟩
  case mstat => exact ⟨_, _, fun _ => rfl, takeMstat_keepsSets body⟩
  case qchain => exact ⟨_, _, fun _ => rfl, fun _ => .same rfl⟩
  case close =>
    exact ⟨_, _, fun _ => rfl, fun s => unless_keepsSets (unless_keepsSets (unless_keepsSets (unless_keepsSets
      (.same rfl))))⟩
  case openRequest => exact ⟨_, _, fun _ => rfl, takeOpen_keepsSets⟩
  case trip => exact ⟨_, _, fun _ => rfl, takeTrip_keepsSets⟩
  case clrlock => exact ⟨_, _, fun _ => rfl, fun s => unless_keepsSets (unless_keepsSets (enterOpen_keepsSets s))⟩
  case qcont => exact ⟨_, _, fun _ => rfl, fun _ => .same rfl⟩
  case sleep =>
    exact ⟨_, _, fun _ => rfl, fun s => unless_keepsSets (unless_keepsSets (unless_keepsSets
      (enterSettling_keepsSets s)))⟩
  case wake => exact ⟨_, _, fun _ => rfl, takeWake_keepsSets⟩
  case qpower => exact ⟨_, _, fun _ => rfl, fun _ => .same rfl⟩
  case reset => exact ⟨_, _, fun _ => rfl, fun s => unless_keepsSets (unless_keepsSets (.same rfl))⟩
  case uopen =>
    exact ⟨_, _, fun _ => rfl, fun s => unless_keepsSets (unless_keepsSets (unless_keepsSets (unless_keepsSets
      (unless_keepsSets (unless_keepsSets (.same rfl))))))⟩
  case ustage => exact ⟨_, _, fun _ => rfl, takeUstage_keepsSets body⟩
  case ucommit => exact ⟨_, _, fun _ => rfl, takeUcommit_keepsSets body⟩
  case uabandon => exact ⟨_, _, fun _ => rfl, takeUabandon_keepsSets⟩
  case qstore => exact ⟨_, _, fun _ => rfl, fun _ => .same rfl⟩
  case keyinst =>
    exact ⟨_, _, fun _ => rfl, fun s => unless_keepsSets (unless_keepsSets (unless_keepsSets (unless_keepsSets
      (writeKey_keepsSets ..))))⟩
  case finlock =>
    exact ⟨_, _, fun _ => rfl, fun s => unless_keepsSets (unless_keepsSets (unless_keepsSets
      (writeKey_keepsSets ..)))⟩
  case clrtamp =>
    exact ⟨_, _, fun _ => rfl, fun s => unless_keepsSets (unless_keepsSets (unless_keepsSets (unless_keepsSets
      ((requestCounterWrite_keepsSets _ false).before rfl))))⟩
  case status => exact ⟨_, _, fun _ => rfl, .refl⟩
  case mask => exact ⟨_, _, fun _ => rfl, fun _ => .same rfl⟩
  case ident => exact ⟨_, _, fun _ => rfl, .refl⟩

/-- The driving of the pins keeps what the event before it does. -/
theorem event_keepsSets {f : State → State} (hf : ∀ u, KeepsSets u (f u)) {s t : State} (h : event f s = .next t) :
    KeepsSets s t := by
  unfold event at h
  split at h <;> cases h
  · exact (hf s).after rfl
  · exact .refl s

theorem execPowerLoss_keepsSets {s t : State} (h : execPowerLoss s = .next t) : KeepsSets s t := by
  unfold execPowerLoss at h
  split at h <;> cases h
  · exact losePower_keepsSets s
  · exact .refl s

/-- Whatever command runs, and in whatever state: O7 is the half of POINTS, O8 that of the inhibit set. -/
theorem exec_keepsSets {c : Instr} {s t : State} (h : exec c s = .next t) : KeepsSets s t := by
  cases hc : c.request? with
  | some r =>
    obtain ⟨ok, owner, hexec, hown⟩ := exec_request_keepsSets (code := r.1) (body := r.2) hc
    rw [hexec] at h
    exact event_keepsSets (fun u => endWrite_keepsSets u _ _ fun v => takeRequest_keepsSets v _ ok owner hown) h
  | none =>
    cases c
    case powerOn =>
      cases h
      exact gainPower_keepsSets s
    case powerLoss => exact execPowerLoss_keepsSets h
    case storeLoadEnd => exact event_keepsSets loadEnded_keepsSets h
    case writeTransactionBegin => exact event_keepsSets beginWrite_keepsSets h
    case readTransaction n => exact event_keepsSets (fun u => readOut_keepsSets u n) h
    case frameError frame => exact event_keepsSets (fun u => badFrame_keepsSets u frame) h
    case unknownRequest code body => exact event_keepsSets (fun u => unknownCode_keepsSets u code body) h
    case frameStart => exact event_keepsSets frameTimerExpired_keepsSets h
    case slotStart => exact event_keepsSets slotInstantReached_keepsSets h
    case captureDelivery x reading => exact event_keepsSets (fun u => captureDelivered_keepsSets u x reading) h
    case blockReply m => exact event_keepsSets (fun u => upMessage_keepsSets u m) h
    case readWaitExpiry => exact event_keepsSets readWaitExpired_keepsSets h
    case enumDelayExpiry => exact event_keepsSets enumDelayExpired_keepsSets h
    case enumReply m => exact event_keepsSets (fun u => upMessage_keepsSets u m) h
    case enumSilenceExpiry => exact event_keepsSets enumSilenceExpired_keepsSets h
    case sleepTimerExpiry => exact event_keepsSets sleepTimerExpired_keepsSets h
    case lineSample l => exact event_keepsSets (fun u => sampleLines_keepsSets u l) h
    case inhibitNotice => exact event_keepsSets deliverInhibit_keepsSets h
    case tripNotice => exact event_keepsSets deliverTrip_keepsSets h
    case referenceSample => exact event_keepsSets deliverReference_keepsSets h
    case auxConfirmExpiry => exact event_keepsSets auxConfirmExpired_keepsSets h
    case prechargeTimeoutExpiry => exact event_keepsSets prechargeExpired_keepsSets h
    case deferMaxExpiry => exact event_keepsSets deferExpired_keepsSets h
    case dropoutExpiry => exact event_keepsSets dropoutExpired_keepsSets h
    case counterWriteEnd b => exact event_keepsSets (fun u => counterWriteEnded_keepsSets u b) h
    case bankWriteUnitEnd b => exact event_keepsSets (fun u => bankUnitEnded_keepsSets u b) h
    case keyWriteEnd b => exact event_keepsSets (fun u => keyWriteEnded_keepsSets u b) h
    case verifyComplete => exact event_keepsSets verified_keepsSets h
    all_goals cases hc

/-- A step is the passing of time or the front command on the queue's rest, which the sets do not hang on. -/
theorem step_keepsSets {s t : State} (h : step s = .next t) : KeepsSets s t := by
  unfold step at h
  split at h
  case h_1 empty => exact event_keepsSets passTime_keepsSets h
  case h_2 c rest front => exact (exec_keepsSets h).before rfl

/-- ATTN as the levels of a supplied part ask for it (R191). -/
theorem attn_of_pinsFollow {s : State} (h : s.pinsFollow) (hv : s.vsup = true) :
    s.pins.attn = (s.pins.hen && s.attention.set.meets s.attention.mask) := by
  rw [State.pinsFollow, State.levels, if_pos hv] at h
  rw [h]

/-- Settles O7: an id joins or leaves the changed-point set by operations that bring POINTS to what R44 asks for, and
ATTN follows with the pins (O5). -/
theorem stepKeepsPointsCauseExact : Obligations.StepKeepsPointsCauseExact := by
  intro s t exact follow h
  exact ⟨(step_keepsSets h).cause exact, attn_of_pinsFollow (stepKeepsPinsFollowing s t follow h)⟩

/-- Settles O8: every change of condition brings the inhibit set up to date for its point, and a frame start and the wake
transition, which write records without, do so for all of them. -/
theorem stepKeepsInhibitSetExact : Obligations.StepKeepsInhibitSetExact :=
  fun _ _ exact h => (step_keepsSets h).inhibits exact

end Sys2Proof.Proofs

/-! Judgement and the point sets (R26 to R31, R36 to R39, R44 to R46): the live part after a sample and after a miss, what
a new live part leads to, and the requests CHANGES, QINHIB and RELEASE. -/

namespace Sys2Proof.Proofs

open Sys2Proof.Machine Sys2Proof.Laws

/-! ### Limits in judgement (R27, R29) -/

theorem beyondHigh_iff (l : Limits) (v : Int) : l.beyondHigh v = true ↔ ∃ h, l.highTrip = some h ∧ h < v := by
  simp only [Limits.beyondHigh, Option.any_eq_true, decide_eq_true_eq]

theorem beyondLow_iff (l : Limits) (v : Int) : l.beyondLow v = true ↔ ∃ h, l.lowTrip = some h ∧ v < h := by
  simp only [Limits.beyondLow, Option.any_eq_true, decide_eq_true_eq]

theorem beyond_iff (l : Limits) (v : Int) :
    l.beyond v = true ↔ (∃ h, l.highTrip = some h ∧ h < v) ∨ (∃ h, l.lowTrip = some h ∧ v < h) := by
  rw [Limits.beyond, Bool.or_eq_true, beyondHigh_iff, beyondLow_iff]

/-- R29: a warn limit stands for itself, and its absence for the trip limit of its side. -/
theorem or_eq_ite {α : Type} (a b : Option α) : a.or b = if a.isSome = true then a else b := by
  cases a <;> rfl

theorem outsideWarn_iff (l : Limits) (v : Int) :
    l.outsideWarn v = true ↔
      (∃ h, (if l.highWarn.isSome = true then l.highWarn else l.highTrip) = some h ∧ h < v) ∨
        (∃ h, (if l.lowWarn.isSome = true then l.lowWarn else l.lowTrip) = some h ∧ v < h) := by
  simp only [Limits.outsideWarn, Limits.effectiveHigh, Limits.effectiveLow, or_eq_ite, Bool.or_eq_true,
    Option.any_eq_true, decide_eq_true_eq]

theorem insideByMargin_iff (l : Limits) (m : Nat) (v : Int) :
    l.insideByMargin m v = true ↔
      (∀ h, (if l.highWarn.isSome = true then l.highWarn else l.highTrip) = some h → v ≤ h - m) ∧
        (∀ h, (if l.lowWarn.isSome = true then l.lowWarn else l.lowTrip) = some h → h + m ≤ v) := by
  simp only [Limits.insideByMargin, Limits.effectiveHigh, Limits.effectiveLow, or_eq_ite, Bool.and_eq_true,
    Option.all_eq_true, decide_eq_true_eq]

/-! ### The live part after a sample (R26 to R29) -/

section Judged

variable {d : Definition} {l : Live} {v : Int} {n : Word32}

theorem judged_excursion_beyond (h : d.limits.beyond v = true) :
    (l.judged d v n).excursion = min (l.excursion + 1) d.persistence := if_pos h

theorem judged_excursion_within (h : ¬d.limits.beyond v = true) : (l.judged d v n).excursion = 0 := if_neg h

/-- R28: a TRIPPED point stays so, with its cause. -/
theorem judged_tripped (h : l.condition = .tripped) :
    (l.judged d v n).condition = .tripped ∧ (l.judged d v n).tripCause = l.tripCause := by
  simp [Live.judged, judgedCondition, h]

/-- R28: a sample beyond trip that brings the excursion to the persistence trips a point. -/
theorem judged_trips (hc : l.condition ≠ .tripped) (hb : d.limits.beyond v = true)
    (he : (l.judged d v n).excursion = d.persistence) :
    (l.judged d v n).condition = .tripped ∧ (l.judged d v n).tripCause = some (limitCause d v) := by
  have reached : nextExcursion d l.excursion v = d.persistence := he
  simp [Live.judged, judgedCondition, hc, hb, reached]

/-- R29: otherwise the warn band and the hysteresis decide. -/
theorem judged_stays (hc : l.condition ≠ .tripped)
    (ht : ¬(d.limits.beyond v = true ∧ (l.judged d v n).excursion = d.persistence)) :
    (l.judged d v n).tripCause = none ∧
      (l.judged d v n).condition =
        if d.limits.outsideWarn v = true then .warn
        else if l.condition = .warn ∧ ¬d.limits.insideByMargin d.hysteresis v = true then .warn
        else .normal := by
  have below : ¬(d.limits.beyond v && nextExcursion d l.excursion v == d.persistence) = true := by
    rw [Bool.and_eq_true, beq_iff_eq]
    exact ht
  have condition : (l.judged d v n).condition =
      if d.limits.outsideWarn v = true then .warn
      else if l.condition = .warn ∧ ¬d.limits.insideByMargin d.hysteresis v = true then .warn
      else .normal := by
    show judgedCondition d l.condition (nextExcursion d l.excursion v) v = _
    simp [judgedCondition, hc, below]
  refine ⟨if_neg ?_, condition⟩
  show ¬(l.judged d v n).condition = .tripped
  rw [condition]
  split
  · decide
  · split <;> decide

end Judged

/-- Settles O27: the tests of judgement say what R27 and R29 say of the limits, and each clause is a branch of the
condition after a sample. -/
theorem validSampleIsJudged : Obligations.ValidSampleIsJudged := by
  intro d l v n high low highWarn lowWarn outside inside m trips
  have beyond : d.limits.beyond v = true ↔ high ∨ low := beyond_iff d.limits v
  have out : d.limits.outsideWarn v = true ↔ outside := outsideWarn_iff d.limits v
  have within : d.limits.insideByMargin d.hysteresis v = true ↔ inside := insideByMargin_iff d.limits d.hysteresis v
  refine ⟨rfl, rfl, rfl, rfl, fun h => judged_excursion_beyond (beyond.2 h),
    fun h => judged_excursion_within (mt beyond.1 h), judged_tripped, fun hc ht => ?_, fun hc ht => ?_⟩
  · obtain ⟨hb, he⟩ := ht
    obtain ⟨condition, cause⟩ := judged_trips hc (beyond.2 hb) he
    refine ⟨condition, fun hh => cause.trans ?_, fun hh => cause.trans ?_⟩
    · rw [limitCause, if_pos ((beyondHigh_iff d.limits v).2 hh)]
    · rw [limitCause, if_neg (mt (beyondHigh_iff d.limits v).1 hh)]
  · obtain ⟨cause, condition⟩ := judged_stays hc (fun h => ht ⟨beyond.1 h.1, h.2⟩)
    refine ⟨cause, fun ho => condition.trans ?_, fun ho hw hi => condition.trans ?_, fun ho hn => condition.trans ?_⟩
    · rw [if_pos (out.2 ho)]
    · rw [if_neg (mt out.1 ho), if_pos ⟨hw, mt within.1 hi⟩]
    · rw [if_neg (mt out.1 ho), if_neg]
      rintro ⟨hw, hi⟩
      exact hn.elim (fun h => h hw) (fun h => hi (within.2 h))

/-! ### The live part after a miss (R30, R31) -/

/-- R31: only the third miss of a point that is not TRIPPED decides anything. -/
theorem afterMiss_undecided {d : Definition} {l : Live} (h : l.missed ≠ 2 ∨ l.condition = .tripped) :
    l.afterMiss d = { l with missed := min (l.missed + 1) 3 } := by
  refine if_neg ?_
  rw [Bool.and_eq_true, decide_eq_true_eq, bne_iff_ne]
  rintro ⟨hm, hc⟩
  exact h.elim (fun h => h hm) (fun h => hc h)

theorem afterMiss_decides {d : Definition} {l : Live} (hm : l.missed = 2) (hc : l.condition ≠ .tripped) :
    l.afterMiss d =
      if d.staleTrips = true then { l with missed := 3, condition := .tripped, tripCause := some .stale }
      else { l with missed := 3, condition := .stale, excursion := 0 } := by
  simp [Live.afterMiss, hm, hc]

theorem afterMiss_keeps (d : Definition) (l : Live) :
    (l.afterMiss d).missed = min (l.missed + 1) 3 ∧ (l.afterMiss d).sample = l.sample ∧
      (l.afterMiss d).spot = l.spot := by
  unfold Live.afterMiss
  simp only
  split
  · split <;> exact ⟨rfl, rfl, rfl⟩
  · exact ⟨rfl, rfl, rfl⟩

/-- Settles O28: the count grows at every miss; the third one alone goes on to the staleness decision. -/
theorem thirdMissDecidesStaleness : Obligations.ThirdMissDecidesStaleness := by
  intro d l m
  obtain ⟨missed, sample, spot⟩ := afterMiss_keeps d l
  refine ⟨missed, sample, spot, fun h => ?_, fun hm hc hs => ?_, fun hm hc hs => ?_⟩
  · have undecided : m = _ := afterMiss_undecided h
    rw [undecided]
    exact ⟨rfl, rfl, rfl⟩
  · have decided : m = _ := afterMiss_decides hm hc
    rw [decided, if_pos hs]
    exact ⟨rfl, rfl, rfl⟩
  · have decided : m = _ := afterMiss_decides hm hc
    rw [decided, if_neg (by rw [hs]; decide)]
    exact ⟨rfl, rfl⟩

/-! ### CHANGES and QINHIB (R44 to R46) -/

/-- R44: POINTS follows the new set, whatever it was before. -/
theorem setChanged_eq (ids : List Nat) (s : State) :
    s.setChanged ids =
      { s with
        table := { s.table with changedSet := ids }
        attention := { s.attention with set := { s.attention.set with points := !ids.isEmpty } } } := by
  cases ids <;> rfl

/-- Settles O25: the owner sets the changed-point set to what the batch leaves of it. -/
theorem changesReportsAndRemoves : Obligations.ChangesReportsAndRemoves := by
  intro s h
  refine request_answers codeChanges [] takeChanges s _ .done _ h ?_
  show ((received 0 s).setChanged (s.table.changedSet.drop 16), _) = _
  rw [setChanged_eq]
  rfl

theorem takeQinhib_beyond {b : List Byte} {s : State} (h : 383 < bodyId b) :
    takeQinhib b s = refuse .badArgument s := if_pos h

theorem takeQinhib_page {b : List Byte} {s : State} (h : bodyId b ≤ 383) :
    takeQinhib b s =
      (s, .now .done (le16 s.table.inhibitSet.length ++ le8 (s.inhibitPage (bodyId b)).length ++
        (s.inhibitPage (bodyId b)).flatMap le16)) := if_neg (Nat.not_lt.2 h)

/-- Settles O26: the start id is read back from the body, and the page does not show the port. -/
theorem qinhibReportsOnePage : Obligations.QinhibReportsOnePage := by
  intro start s hh hstart page
  have id : bodyId (le16 start) = start := bodyId_le16 start hstart
  refine ⟨fun h => ?_, fun h => ?_⟩
  · exact request_refuses codeQinhib (le16 start) _ s _ hh (takeQinhib_beyond (by rw [id]; exact h))
  · have owner := takeQinhib_page (b := le16 start) (s := received 2 s) (by rw [id]; exact h)
    rw [id] at owner
    exact request_answers codeQinhib (le16 start) _ s s .done _ hh owner

/-! ### What a new live part leads to (R36) -/

/-- Everything that a new live part `l'` of a LIVE point leads to: its record, and after a change of condition the two
sets, the notices, POINTS and the wake cause. -/
structure LiveLeadsTo (id : Nat) (d : Definition) (l l' : Live) (p : Option PendingPart) (s t : State) : Prop where
  judges : OnlyJudges s t
  record : t.point id = .live d l' p
  otherRecords : ∀ x, x ≠ id → t.point x = s.point x
  notices : t.table.notices = s.table.notices ++
    (if l'.condition != l.condition && (Point.live d l' p).inhibits && !s.table.inhibitSet.contains id then
      [.inhibit id] else []) ++
    (if l'.condition != l.condition && d.actions.opens && l'.condition == .tripped then [.trip id] else [])
  member : (l'.condition != l.condition) = true → (id ∈ t.table.inhibitSet ↔ (Point.live d l' p).inhibits = true)
  still : (l'.condition != l.condition) = false → t.table.inhibitSet = s.table.inhibitSet
  otherMembers : ∀ x, x ≠ id → (x ∈ t.table.inhibitSet ↔ x ∈ s.table.inhibitSet)
  changed : ∀ x, x ∈ t.table.changedSet ↔ x ∈ s.table.changedSet ∨
    (x = id ∧ (l'.condition != l.condition) = true ∧ d.actions.report = true)
  attention : t.attention = { s.attention with set :=
    { s.attention.set with points := s.attention.set.points || (l'.condition != l.condition && d.actions.report) } }
  wakes : (l'.condition != l.condition && s.power.state == .sleepFrame && d.sleepDivider.isSome && d.actions.wakes &&
      (l'.condition == .warn || l'.condition == .tripped || l'.condition == .stale)) = true →
    t.power = { s.power with
      wakeSet := { s.power.wakeSet with point := true }
      firstPoint := if s.power.firstPoint.isSome then s.power.firstPoint else some id }
  sleeps : (l'.condition != l.condition && s.power.state == .sleepFrame && d.sleepDivider.isSome && d.actions.wakes &&
      (l'.condition == .warn || l'.condition == .tripped || l'.condition == .stale)) = false → t.power = s.power

theorem setLive_leads {s : State} {id : Nat} {d : Definition} {l l' : Live} {p : Option PendingPart}
    (hp : s.point id = .live d l p) : LiveLeadsTo id d l l' p s (s.setLive id d l l' p) := by
  have hid : id < 384 := lt_of_point_ne_vacant s id (by simp [hp])
  have written : (s.setPoint id (.live d l' p)).point id = .live d l' p := by
    rw [point_setPoint, if_pos ⟨rfl, hid⟩]
  have judges := setLive_judges s id d l l' p hp
  have record := point_of_table _ _ (setLive_points s id d l l' p)
  have others : ∀ x, x ≠ id → (s.setLive id d l l' p).point x = s.point x := fun x hx => by
    rw [record, point_setPoint, if_neg (fun h => hx h.1)]
  by_cases same : l'.condition = l.condition
  · have quiet : (l'.condition != l.condition) = false := by rw [same]; exact bne_self_eq_false _
    have unchanged : s.setLive id d l l' p = s.setPoint id (.live d l' p) := if_pos same
    rw [unchanged] at judges others ⊢
    constructor
    case judges => exact judges
    case record => exact written
    case otherRecords => exact others
    all_goals simp [quiet]
  · have moved : (l'.condition != l.condition) = true := bne_iff_ne.2 same
    have changes : s.setLive id d l l' p = (s.setPoint id (.live d l' p)).conditionChanged id d l'.condition :=
      if_neg same
    have leads := conditionChanged_leads (s.setPoint id (.live d l' p)) id d l'.condition
    rw [written, ← changes] at leads
    constructor
    case judges => exact judges
    case record => exact (record id).trans written
    case otherRecords => exact others
    case notices =>
      rw [moved]
      simp only [Bool.true_and]
      exact leads.notices
    case member => exact fun _ => leads.member
    case still => exact fun quiet => absurd quiet (by rw [moved]; decide)
    case otherMembers => exact leads.others
    case changed =>
      rw [moved]
      simp only [true_and]
      exact leads.changed
    case attention =>
      rw [moved, Bool.true_and]
      exact leads.attention
    case wakes =>
      rw [moved, Bool.true_and]
      exact leads.wakes
    case sleeps =>
      rw [moved, Bool.true_and]
      exact leads.sleeps

/-! ### RELEASE (R36 to R39) -/

theorem takeRelease_done {id : Nat} {d : Definition} {l : Live} {p : Option PendingPart} {s : State}
    (hp : s.point id = .live d l p) (hc : l.condition = .tripped) (ht : clearTest d l = true) :
    takeRelease id s = (s.setLive id d l (l.released d) p, .now .done (le8 (l.released d).condition.code)) := by
  simp [takeRelease, hp, hc, ht]

/-- R38: the condition a released point enters. -/
theorem releasedCondition_eq (d : Definition) (l : Live) :
    releasedCondition d l = if l.sample.any (fun x => d.limits.outsideWarn x.value) = true then .warn else .normal := by
  unfold releasedCondition
  cases l.sample <;> rfl

/-- R39: a released point belongs in the inhibit set exactly when it inhibits and has become WARN. -/
theorem inhibits_released (d : Definition) (l : Live) (p : Option PendingPart) :
    (Point.live d (l.released d) p).inhibits = true ↔ d.actions.inhibit = true ∧ releasedCondition d l = .warn := by
  show (d.actions.inhibit && releasedCondition d l != .normal || d.actions.opens && releasedCondition d l == .tripped) =
    true ↔ _
  rw [releasedCondition_eq]
  split <;> simp

theorem released_condition_ne (d : Definition) (l : Live) : (l.released d).condition ≠ .tripped := by
  show releasedCondition d l ≠ .tripped
  rw [releasedCondition_eq]
  split <;> decide

/-- Only in ACTIVE and SETTLING a request other than STATUS, IDENT and WAKE is handed (R130). -/
theorem awake_of_hands {s : State} {code : Byte} (h : s.hands code) (hw : code ≠ codeWake) :
    s.power.state ≠ .sleepFrame := by
  obtain ⟨_, handed⟩ := h
  intro asleep
  rw [gate_ignored (.inr asleep) hw] at handed
  cases handed

/-- Settles O24: an accepted RELEASE is a new live part with a change of condition, out of TRIPPED. -/
theorem releaseLeavesTripped : Obligations.ReleaseLeavesTripped := by
  intro id d l p s hh hid hp hc ht entered
  have enters : releasedCondition d l = entered := releasedCondition_eq d l
  have owner := (withId_le16 id takeRelease (received 2 s) hid).trans (takeRelease_done (s := received 2 s) hp hc ht)
  have taken := request_handed codeRelease (le16 id) (withId (le16 id) takeRelease) s hh
  have leads := setLive_leads (s := received 2 s) (l' := l.released d) hp
  have moved : ((l.released d).condition != l.condition) = true := by
    rw [bne_iff_ne, hc]
    exact released_condition_ne d l
  rw [show (le16 id).length = 2 from rfl, owner] at taken
  generalize (received 2 s).setLive id d l (l.released d) p = t at taken leads
  have judges := leads.judges
  have awake : s.power.state ≠ .sleepFrame := awake_of_hands hh (by decide)
  refine ⟨_, taken, ?_, leads.otherRecords, fun x => ?_, ?_, leads.otherMembers, fun listed => ?_, ?_, ?_, judges.seq,
    judges.clock, judges.chain, judges.sense, judges.awake awake, judges.engine,
    judges.store⟩
  · rw [← enters]
    exact leads.record
  · have changed := leads.changed x
    rw [moved] at changed
    simp only [true_and] at changed
    exact changed
  · rw [← enters]
    exact (leads.member moved).trans (inhibits_released d l p)
  · have within : (Point.live d (l.released d) p).inhibits = true → s.table.inhibitSet.contains id = true := by
      intro h
      obtain ⟨inhibit, _⟩ := (inhibits_released d l p).1 h
      obtain ⟨member, _⟩ := listed
      rw [List.contains_iff_mem, member, hp]
      simp [Point.inhibits, inhibit, hc]
    have untripped : ((l.released d).condition == .tripped) = false := by simp [released_condition_ne d l]
    have unlisted : ((Point.live d (l.released d) p).inhibits && !s.table.inhibitSet.contains id) = false := by
      rw [Bool.and_eq_false_iff, Bool.not_eq_false']
      exact or_iff_not_imp_left.2 fun h => within (eq_true_of_ne_false h)
    have notices := leads.notices
    rw [untripped, Bool.and_false, Bool.and_assoc, received_table, unlisted, Bool.and_false] at notices
    simp only [Bool.false_eq_true, if_false, List.append_nil] at notices
    exact notices
  · have attention := leads.attention
    rw [moved, Bool.true_and] at attention
    exact attention
  · rw [← enters]
    rfl

end Sys2Proof.Proofs

/-! Deliveries (R88 to R92, R102): what a value or a miss leads to at one point, and what a delivery does. -/

namespace Sys2Proof.Proofs

open Sys2Proof.Machine Sys2Proof.Laws

/-! ### One point receives a value, or a miss -/

/-- R26, R30: the live part after a value, or after a miss, in frame `n`. -/
def liveAfter (d : Definition) (n : Word32) (l : Live) : Option Int → Live
  | some v => l.judged d v n
  | none => l.afterMiss d

/-- R102: what a sample hands on to the sequencer. -/
def referenceNotices (profile : Option Profile) (id : Nat) : Option Int → List Notice
  | some v =>
    match profile with
    | some q => if q.busPoint = id ∨ q.currentPoint = id then [.reference id v] else []
    | none => []
  | none => []

/-- The notices alone are written, behind those that wait. -/
def sendNotices (ns : List Notice) (s : State) : State :=
  { s with table := { s.table with notices := s.table.notices ++ ns } }

theorem sendNotices_nil (s : State) : sendNotices [] s = s := by
  rw [sendNotices, List.append_nil]

theorem handReference_eq (s : State) (id : Nat) (v : Int) :
    s.handReference id v = sendNotices (referenceNotices s.seq.profile id (some v)) s := by
  unfold State.handReference referenceNotices
  cases s.seq.profile with
  | none => exact (sendNotices_nil s).symm
  | some q =>
    by_cases h : q.busPoint = id ∨ q.currentPoint = id
    · simp only [if_pos h]
      rfl
    · simp only [if_neg h]
      exact (sendNotices_nil s).symm

/-- A value, or a miss, at one LIVE point: the new live part with all it leads to, and then the notice of a reference. -/
theorem deliver_one {s : State} {id : Nat} {d : Definition} {l : Live} {p : Option PendingPart}
    (hp : s.point id = .live d l p) (v : Option Int) :
    ∃ u, LiveLeadsTo id d l (liveAfter d s.clock.number l v) p s u ∧
      s.deliver [id] v = sendNotices (referenceNotices s.seq.profile id v) u := by
  have leads := setLive_leads (l' := liveAfter d s.clock.number l v) hp
  refine ⟨_, leads, ?_⟩
  cases v with
  | none =>
    have taken : s.deliver [id] none = s.setLive id d l (l.afterMiss d) p := by
      show s.miss id = _
      rw [State.miss, hp]
    exact taken.trans (sendNotices_nil _).symm
  | some x =>
    have taken : s.deliver [id] (some x) = (s.setLive id d l (l.judged d x s.clock.number) p).handReference id x := by
      show s.sample id x = _
      rw [State.sample, hp]
    rw [taken, handReference_eq, (setLive_judges s id d l _ p hp).seq]
    rfl

/-! ### A delivery -/

/-- The capture of a converter stands in the sense part alone. -/
theorem setCapture_eq (s : State) (c : Converter) (x : Option Capture) :
    ∃ w, s.setCapture c x = { s with sense := w } ∧ ({ s with sense := w } : State).capture? c = x := by
  cases c <;> exact ⟨_, rfl, rfl⟩

theorem capture_of_sense {s t : State} (h : t.sense = s.sense) (c : Converter) : t.capture? c = s.capture? c := by
  cases c <;> simp only [State.capture?, h]

theorem deliver_nil (s : State) (v : Option Int) : s.deliver [] v = s := by
  cases v <;> rfl

theorem completeSpot_live {s : State} {id : Nat} {d : Definition} {l : Live} {p : Option PendingPart}
    (hp : s.point id = .live d l p) (v : Option Int) :
    s.completeSpot id v =
      (s.setPoint id (.live d
        { l with spot := some { value := v, frame := s.clock.number, outcome := if v.isSome then .ok else .failed } }
        p)).addChanged id := by
  rw [State.completeSpot, hp]

/-- The last item of the queue completes: the tail is empty and idle. -/
theorem tailCompleted_last {t : State} (h : t.clock.tail.tail = []) : t.tailCompleted = t.popTail :=
  runTail_nil (s := t.popTail) h

section Delivered

variable {s : State} {c : Converter} {reading : Int}

theorem captureDelivery_of_points {ids : List Nat} (hv : s.vsup = true)
    (h : s.capture? c = some { ids := ids, spot := none }) :
    exec (.captureDelivery c reading) s =
      .next ((s.setCapture c none).deliver ids (convertedValue c reading)).drive := by
  refine (event_of_supply _ s hv).trans ?_
  simp only [State.captureDelivered, h]

theorem captureDelivery_of_spot {id : Nat} (hv : s.vsup = true)
    (h : s.capture? c = some { ids := [], spot := some id }) :
    exec (.captureDelivery c reading) s =
      .next (((s.setCapture c none).completeSpot id (convertedValue c reading)).tailCompleted).drive := by
  refine (event_of_supply _ s hv).trans ?_
  simp only [State.captureDelivered, h, deliver_nil]

end Delivered

/-- Settles O35: the capture is gone, and the rest is the judgement of its points, in any number and for one alone, or
the spot record. -/
theorem deliveryReachesTheCapturesPoints : Obligations.DeliveryReachesTheCapturesPoints := by
  intro c reading s hv
  obtain ⟨w, cleared, gone⟩ := setCapture_eq s c none
  refine ⟨fun ids h hn => ?_, fun id d l p h hp => ?_, fun id d l p h hp ht => ?_⟩
  · rw [captureDelivery_of_points hv h, cleared]
    have judges := deliver_judges { s with sense := w } ids (convertedValue c reading)
    have points := point_deliver { s with sense := w } ids (convertedValue c reading) hn
    refine ⟨_, rfl, (capture_of_sense judges.sense c).trans gone, fun id d l p hid hp => ?_, fun id hid => ?_,
      judges.clock, judges.chain, judges.seq, judges.store, judges.engine⟩
    · have live : State.point { s with sense := w } id = .live d l p := hp
      refine (points id).trans ?_
      rw [if_pos hid, live]
      cases convertedValue c reading <;> rfl
    · exact (points id).trans (if_neg hid)
  · rw [captureDelivery_of_points hv h, cleared]
    generalize convertedValue c reading = v
    obtain ⟨u, leads, delivered⟩ := deliver_one (s := { s with sense := w }) hp v
    rw [delivered]
    refine ⟨_, rfl, ?_, ?_, leads.member, leads.still, leads.otherMembers, leads.changed, leads.attention, leads.wakes,
      leads.sleeps⟩
    · exact leads.record
    · refine (congrArg (· ++ referenceNotices s.seq.profile id v) leads.notices).trans ?_
      cases v with
      | none => rfl
      | some x => cases s.seq.profile <;> rfl
  · rw [captureDelivery_of_spot hv h, cleared]
    have spot := completeSpot_live (s := { s with sense := w }) hp (convertedValue c reading)
    have hid : id < 384 := lt_of_point_ne_vacant s id (by simp [hp])
    have last := tailCompleted_last (t := State.completeSpot id (convertedValue c reading) { s with sense := w })
      (by rw [spot]; exact congrArg List.tail ht)
    rw [last, spot]
    refine ⟨_, rfl, gone, ?_, fun x hx => ?_, ?_, fun x => ?_, rfl, rfl, rfl, rfl, rfl, rfl, rfl, rfl⟩
    · refine (point_setPoint { s with sense := w } id id _).trans ?_
      rw [if_pos ⟨rfl, hid⟩]
      cases convertedValue c reading <;> rfl
    · exact (point_setPoint { s with sense := w } id x _).trans (if_neg fun h => hx h.1)
    · show { s.clock with tail := s.clock.tail.tail, tailInFlight := false } = _
      rw [ht]
      rfl
    · exact (mem_insertId id x s.table.changedSet).trans or_comm

end Sys2Proof.Proofs

/-! Sleep (R84, R132 to R145): the decision of SETTLING, the sleep frame with its enumeration and its round, and what its
end decides. -/

namespace Sys2Proof.Proofs

open Sys2Proof.Machine Sys2Proof.Laws

/-! ### The levels in sleep (R127, R191) -/

theorem drive_asleep {t : State} (hv : t.vsup = true) (h : t.power.state.hen = false) :
    t.drive.pins.hen = false ∧ t.drive.pins.attn = false := by
  obtain ⟨hen, attn⟩ := drive_levels hv
  rw [h] at hen attn
  exact ⟨hen, attn⟩

theorem drive_awake {t : State} (hv : t.vsup = true) (h : t.power.state.hen = true) : t.drive.pins.hen = true :=
  (drive_levels hv).1.trans h

/-! ### The counter write that SETTLING waits for (R133, R136) -/

/-- The next holder of the write path is a matter of the Store alone. -/
theorem startNextWrite_rest (s : State) : ∃ x, s.startNextWrite = { s with store := x } := by
  unfold State.startNextWrite
  split
  · exact ⟨_, rfl⟩
  · split
    · exact ⟨_, rfl⟩
    · split
      · unfold State.startBankWrite
        simp only
        generalize State.writeTarget _ = b
        cases b <;> exact ⟨_, rfl⟩
      · exact ⟨_, rfl⟩

/-- The report of a counter write touches the Store and the cause STORE. -/
theorem counterReported_rest (w : CounterWrite) (ok : Bool) (s : State) :
    ∃ x y, counterReported w ok s = { s with store := x, attention := y } := by
  unfold counterReported State.counterStored State.counterLost State.setCounterSlot
  cases ok <;> cases w.slot <;> exact ⟨_, _, rfl⟩

/-- The counter write that SETTLING waits for ends: its report, the decision, then the next holder. -/
theorem exec_settlingWriteEnd {s : State} {w : CounterWrite} {ok : Bool} (hv : s.vsup = true)
    (hi : s.store.inFlight = .counter w) (hf : w.forSettling = true)
    (hr : (counterReported w ok s).settlingDecision.power.reset ≠ .held) :
    exec (.counterWriteEnd ok) s = .next (counterReported w ok s).settlingDecision.startNextWrite.drive := by
  have ends : s.counterWriteEnded ok = (counterReported w ok s).settlingDecision.startNextWrite := by
    have free := afterWrite_of_not_held (counterReported w ok s).settlingDecision.startNextWrite
      (by rw [startNextWrite_power]; exact hr)
    rw [← free]
    simp only [State.counterWriteEnded, hi, hf, if_true, counterReported]
  rw [← ends]
  exact event_of_supply _ s hv

theorem settlingDecision_sleeps {s : State} (h : s.power.state = .settling) (hw : s.power.wakeSet = .none) :
    s.settlingDecision = s.enterDeepSleep := by
  rw [State.settlingDecision, if_pos h, if_pos ((wakeCauses_isEmpty _).2 hw)]

/-- R135: the state in which the return to ACTIVE starts its frame. -/
def returning (s : State) : State :=
  { s with
    power :=
      { s.power with
        state := .active
        record :=
          { causes := s.power.wakeSet, firstPoint := none, sleepFrames := 0, entryFrame := some s.clock.number }
        wakeSet := .none, firstPoint := none, quiet := false }
    attention := { s.attention with set := { s.attention.set with power := true } } }

theorem returnToActive_eq (s : State) : s.returnToActive = (returning s).frameStart := by
  unfold State.returnToActive State.enterActive
  exact congrArg State.frameStart rfl

theorem settlingDecision_returns {s : State} (h : s.power.state = .settling) (hw : s.power.wakeSet ≠ .none) :
    s.settlingDecision = (returning s).frameStart := by
  rw [State.settlingDecision, if_pos h, if_neg (mt (wakeCauses_isEmpty _).1 hw), returnToActive_eq]

theorem opening_leaves {s : State} (he : s.engine.state ≠ .applying) :
    (opening s).vsup = s.vsup ∧ (opening s).seq = s.seq := by
  have params : s.applyParams.vsup = s.vsup ∧ s.applyParams.seq = s.seq := by
    rw [applyParams_rest]
    exact ⟨rfl, rfl⟩
  have applies := applyPoints_applies s.applyParams
  have judges := refreshAllInhibits_judges s.applyParams.applyPoints
  have decided : ∀ t : State, t.openNumber.decideDiscovery.vsup = t.vsup ∧ t.openNumber.decideDiscovery.seq = t.seq := by
    intro t
    rw [decideDiscovery_rest]
    exact ⟨rfl, rfl⟩
  obtain ⟨vsup, seq⟩ := decided s.applyParams.applyPoints.refreshAllInhibits
  rw [opening, applications_eq he]
  exact ⟨vsup.trans (judges.vsup.trans (applies.vsup.trans params.1)),
    seq.trans (judges.seq.trans (applies.seq.trans params.2))⟩

/-- A frame start out of STOPPED, with no commit in APPLYING, leaves the supply and the sequencer. -/
theorem frameStart_leaves {s : State} (ha : s.power.state = .active) (hs : s.clock.phase = .stopped)
    (he : s.engine.state ≠ .applying) : s.frameStart.vsup = s.vsup ∧ s.frameStart.seq = s.seq := by
  have ended : s.endFrame = s := by rw [State.endFrame, hs]
  obtain ⟨_, power, _⟩ := opening_counts ha
  obtain ⟨vsup, seq⟩ := opening_leaves he
  have runs := startSlot_runs (opening s) 0 (by rw [power, ha])
  rw [frameStart_active (by rw [ended, ha]), ended, openFrame_eq]
  exact ⟨runs.vsup.trans vsup, runs.seq.trans seq⟩

/-! ### The sleep frame and its enumeration (R137 to R140) -/

theorem sleepTimerExpired_due {s : State} {n : Nat} (h : s.power.state = .deepSleep) (ht : s.power.sleepTimer = some n) :
    s.sleepTimerExpired =
      { s with
        power := { s.power with state := .sleepFrame, sleepFrame := s.power.sleepFrame + 1, sleepTimer := none }
        chain :=
          { s.chain with
            enumeration := some { purpose := .sleepFrame, listening := false, counting := true, found := 0 }
            sent := s.chain.sent ++ [withCrc8 [0x02]] } } := by
  rw [State.sleepTimerExpired, if_pos ⟨h, by rw [ht]; rfl⟩]
  rfl

/-- R85, R139: the state in which the sleep round starts: the enumeration is over, and a monitor lost since the entry to
sleep is a cause to wake. -/
def enumerated (found : Nat) (s : State) : State :=
  { s with
    chain := { s.chain with enumeration := none }
    power :=
      { s.power with
        wakeSet := if found < s.chain.sleepEntryCount then { s.power.wakeSet with chain := true } else s.power.wakeSet } }

theorem enumSilenceExpired_sleepFrame {s : State} {e : Enumeration} (he : s.chain.enumeration = some e)
    (hl : e.listening = true) (hp : e.purpose = .sleepFrame) :
    s.enumSilenceExpired = (enumerated e.found s).startSleepRound e.found := by
  have ended : s.sleepEnumerationEnded e.found = (enumerated e.found s).startSleepRound e.found := by
    unfold State.sleepEnumerationEnded enumerated
    by_cases lost : e.found < s.chain.sleepEntryCount
    · simp only [if_pos lost]
      rfl
    · simp only [if_neg lost]
  rw [← ended]
  simp only [State.enumSilenceExpired, he, hl, hp, if_true]

theorem enumerated_lost {found : Nat} {s : State} (h : found < s.chain.sleepEntryCount) :
    (enumerated found s).power.wakeSet = { s.power.wakeSet with chain := true } := if_pos h

theorem enumerated_found {found : Nat} {s : State} (h : ¬found < s.chain.sleepEntryCount) :
    enumerated found s = { s with chain := { s.chain with enumeration := none } } := by
  rw [enumerated, if_neg h]

theorem enumerated_causes {found : Nat} {s : State} (h : s.power.wakeSet ≠ .none ∨ found < s.chain.sleepEntryCount) :
    (enumerated found s).power.wakeSet ≠ .none := by
  by_cases lost : found < s.chain.sleepEntryCount
  · rw [enumerated_lost lost]
    exact fun empty => nomatch congrArg (·.chain) empty
  · rw [enumerated_found lost]
    exact h.resolve_right lost

/-! ### The sleep round (R140, R141) -/

/-- R140: without a kept point due the round ends at its start. -/
theorem startSleepRound_empty {s : State} (found : Nat) (hp : s.sleepPoints = []) (hr : s.chain.round = none) :
    s.startSleepRound found = s.sleepRoundEnded := by
  have captured : s.captureRound [] = s := rfl
  unfold State.startSleepRound
  simp only [hp, List.filter_nil, captured, beginRound_nil, hr]
  rfl

/-- A round that begins is of the kind asked for. -/
theorem beginRound_inSleep {s : State} {b : Bool} {ids : List Nat} {reach : Nat → Bool} {r : Round}
    (hs : s.chain.round = none) (hr : (s.beginRound b ids reach).chain.round = some r) : r.inSleep = b := by
  have judges := missAll_judges s (ids.filter (fun id => (s.readEntry? id).any (fun e => !reach e.1)))
  unfold State.beginRound at hr
  simp only at hr
  split at hr
  · rw [judges.chain, hs] at hr
    cases hr
  · cases hr
    rfl

/-- R140: with every monitor of its points in reach a sleep round that has entries begins on the ring. -/
theorem startSleepRound_reads {s : State} {found : Nat} {e : Nat × Block} {rest : List (Nat × Block)}
    (hs : s.chain.round = none)
    (hreach : ∀ id ∈ s.sleepPoints, ∀ x, s.readEntry? id = some x → x.1 < found ∧ s.readable x.1 = true)
    (hq : s.readQueue s.sleepPoints (fun a => decide (a < found) && s.readable a) = e :: rest) :
    ∃ (r : Round) (t : State), r.queue = e :: rest ∧ r.inSleep = true ∧ s.startSleepRound found = beganRound r e t ∧
      t.table = s.table ∧ t.chain = s.chain ∧ t.power = s.power := by
  obtain ⟨table, _, chain, power⟩ := captureRound_rest s.sleepPoints s
  unfold State.startSleepRound
  simp only
  generalize s.captureRound s.sleepPoints = t at table chain power
  have hdef : ∀ id, (t.point id).liveDefinition? = (s.point id).liveDefinition? := fun id => by
    rw [point_of_table s t (by rw [table])]
  obtain ⟨r, hr, began⟩ := beginRound_begins (s := t) (inSleep := true)
    (reach := fun a => decide (a < found) && s.readable a)
    (ids := s.sleepPoints.filter (fun id => (s.readEntry? id).isSome))
    (fun id hid x hx => by
      have near := hreach id (List.mem_filter.1 hid).1 x ((readEntry_of_definitions hdef id).symm.trans hx)
      rw [decide_eq_true near.1, near.2]
      rfl)
    (by rw [readQueue_of_definitions hdef, readQueue_filter_chain, hq])
  refine ⟨r, t, hr, beginRound_inSleep (chain ▸ hs) (congrArg (·.chain.round) began), ?_, table, chain, power⟩
  rw [began]
  exact if_pos rfl

/-! ### The end of the sleep round (R141) -/

section Ended

variable {s : State}

/-- R141: the kept aggregates due are read off the definitions and the sleep frame. -/
theorem dueSleepAggregates_of_definitions {t : State}
    (h : ∀ id, (t.point id).liveDefinition? = (s.point id).liveDefinition?)
    (hf : t.power.sleepFrame = s.power.sleepFrame) : t.dueSleepAggregates = s.dueSleepAggregates := by
  unfold State.dueSleepAggregates State.liveIds
  simp only [h, hf]

/-- R141: with no aggregate due and no cause gathered the part sleeps again. -/
theorem sleepRoundEnded_sleeps (hd : s.dueSleepAggregates = []) (hw : s.power.wakeSet = .none) :
    s.sleepRoundEnded =
      { s with
        power := { s.power with state := .deepSleep, sleepTimer := some s.clock.active.sleepPeriod }
        chain := { s.chain with sent := s.chain.sent ++ [withCrc8 [0x03]] } } := by
  have judged : s.judgeAggregates [] = s := rfl
  simp only [State.sleepRoundEnded, hd, judged]
  rw [if_pos ((wakeCauses_isEmpty _).2 hw)]
  rfl

/-- R141: with no aggregate due and a cause gathered it wakes. -/
theorem sleepRoundEnded_wakes (hd : s.dueSleepAggregates = []) (hw : s.power.wakeSet ≠ .none) :
    s.sleepRoundEnded = s.enterWaking := by
  have judged : s.judgeAggregates [] = s := rfl
  simp only [State.sleepRoundEnded, hd, judged]
  exact if_neg (mt (wakeCauses_isEmpty _).1 hw)

/-- R77: the count of a round is a matter of the roster and the cause CHAIN. -/
theorem countRound_rest (r : Round) (s : State) :
    ∃ x y, s.countRound r = { s with chain := { s.chain with roster := x }, attention := y } := by
  have counted : ∀ (t : State) (a : Nat), ∃ x y,
      t.countMonitor r a = { t with chain := { t.chain with roster := x }, attention := y } := by
    intro t a
    unfold State.countMonitor
    simp only
    split
    · split <;> exact ⟨_, _, rfl⟩
    · split <;> exact ⟨_, _, rfl⟩
  unfold State.countRound
  induction r.monitors generalizing s with
  | nil => exact ⟨_, _, rfl⟩
  | cons a rest ih =>
    obtain ⟨x, y, counts⟩ := counted s a
    obtain ⟨x', y', others⟩ := ih (s.countMonitor r a)
    refine ⟨x', y', others.trans ?_⟩
    rw [counts]

/-- R73: what an accepted block gives one LIVE point. -/
theorem giveRound_one {id : Nat} {d : Definition} {l : Live} {p : Option PendingPart} (hp : s.point id = .live d l p)
    (b : Block) (words : List Nat) :
    s.giveRound b (some words) [id] = s.deliver [id] (d.channelIn b words) := by
  have value : s.channelFor id b words = d.channelIn b words := by
    rw [State.channelFor, hp]
    rfl
  show s.deliverChannel b words id = _
  rw [State.deliverChannel, value]
  cases d.channelIn b words <;> rfl

/-- R58, R73, R141: an accepted reply to the last entry of a sleep round gives its points their channels, and ends the
round. -/
theorem upMessage_last {r : Read} {q : Round} {m : List Byte} {words : List Nat} (hr : s.chain.read = some r)
    (ho : r.owner = .round) (hq : s.chain.round = some q)
    (he : q.queue = [(r.address, r.block)]) (hc : checkReply r s.chain.tag m = .good false words) :
    s.upMessage m =
      (s.abandonRead.giveRound r.block (some words) (s.dependents q.queue q.points)).finishRound
        { q with queue := [], accepted := r.address :: q.accepted } := by
  rw [upMessage_accepted hr hc, State.readEnded, ho]
  have round : s.abandonRead.chain.round = some q := hq
  unfold State.roundReadEnded Round.advance
  simp only [round, he, Option.isSome_some, if_true]
  rfl

theorem finishRound_inSleep {r : Round} (hs : r.inSleep = true) :
    ∃ x y, s.finishRound r =
      State.sleepRoundEnded { s with chain := { s.chain with round := none, roster := x }, attention := y } := by
  obtain ⟨x, y, counted⟩ := countRound_rest r { s with chain := { s.chain with round := none } }
  refine ⟨x, y, ?_⟩
  simp only [State.finishRound, hs, if_true, counted]

/-- R141: whatever it decides, the end of the round leaves the table, and neither a round nor a read comes of it. -/
theorem sleepRoundEnded_leaves (hd : s.dueSleepAggregates = []) :
    s.sleepRoundEnded.table = s.table ∧ s.sleepRoundEnded.chain.round = s.chain.round ∧
      s.sleepRoundEnded.chain.read = s.chain.read ∧ s.sleepRoundEnded.vsup = s.vsup := by
  by_cases hw : s.power.wakeSet = .none
  · rw [sleepRoundEnded_sleeps hd hw]
    exact ⟨rfl, rfl, rfl, rfl⟩
  · rw [sleepRoundEnded_wakes hd hw]
    exact ⟨rfl, rfl, rfl, rfl⟩

end Ended

/-! ### The last reply of a sleep round (R47, R141, R142) -/

/-- R47: a change from `c` to `c'` sends a wake notice in a sleep frame. -/
def wakesOn (d : Definition) (c c' : Condition) : Prop :=
  c' ≠ c ∧ d.sleepDivider ≠ none ∧ d.actions.wakes = true ∧ (c' = .warn ∨ c' = .tripped ∨ c' = .stale)

theorem wakesOn_iff {p : PowerState} (h : p = .sleepFrame) (d : Definition) (c c' : Condition) :
    (c' != c && p == .sleepFrame && d.sleepDivider.isSome && d.actions.wakes &&
      (c' == .warn || c' == .tripped || c' == .stale)) = true ↔ wakesOn d c c' := by
  simp [wakesOn, h, Option.isSome_iff_ne_none, and_assoc, or_assoc]

/-- `z` is the state in which a sleep round ends whose last entry has given the point `id` the live part `l'`. -/
structure SleepRoundGiven (id : Nat) (d : Definition) (l l' : Live) (p : Option PendingPart) (s z : State) : Prop where
  vsup : z.vsup = s.vsup
  clock : z.clock = s.clock
  record : z.point id = .live d l' p
  due : z.dueSleepAggregates = s.dueSleepAggregates
  round : z.chain.round = none
  read : z.chain.read = none
  sent : z.chain.sent = s.chain.sent
  wakes : wakesOn d l.condition l'.condition →
    z.power = { s.power with
      wakeSet := { s.power.wakeSet with point := true }
      firstPoint := if s.power.firstPoint.isSome then s.power.firstPoint else some id }
  sleeps : ¬wakesOn d l.condition l'.condition → z.power = s.power

theorem upMessage_givesSleepRound {s : State} {r : Read} {q : Round} {m : List Byte} {words : List Nat} {id : Nat}
    {d : Definition} {l : Live} {p : Option PendingPart} (hf : s.power.state = .sleepFrame)
    (hr : s.chain.read = some r) (ho : r.owner = .round) (hq : s.chain.round = some q) (hs : q.inSleep = true)
    (he : q.queue = [(r.address, r.block)]) (hc : checkReply r s.chain.tag m = .good false words)
    (hi : s.dependents q.queue q.points = [id]) (hp : s.point id = .live d l p) :
    ∃ z, s.upMessage m = z.sleepRoundEnded ∧
      SleepRoundGiven id d l (liveAfter d s.clock.number l (d.channelIn r.block words)) p s z := by
  obtain ⟨u, leads, given⟩ := deliver_one (s := s.abandonRead) hp (d.channelIn r.block words)
  have last := upMessage_last hr ho hq he hc
  rw [hi, giveRound_one (s := s.abandonRead) hp, given] at last
  obtain ⟨x, y, finished⟩ := finishRound_inSleep
    (s := sendNotices (referenceNotices s.abandonRead.seq.profile id (d.channelIn r.block words)) u)
    (r := { q with queue := [], accepted := r.address :: q.accepted }) hs
  have judges := leads.judges
  have notice := wakesOn_iff hf d l.condition (liveAfter d s.clock.number l (d.channelIn r.block words)).condition
  refine ⟨_, last.trans finished, ?_⟩
  constructor
  case vsup => exact judges.vsup
  case clock => exact judges.clock
  case record => exact leads.record
  case due => exact dueSleepAggregates_of_definitions (s := s.abandonRead) judges.definitions judges.sleepFrame
  case round => rfl
  case read => exact congrArg (·.read) judges.chain
  case sent => exact congrArg (·.sent) judges.chain
  case wakes => exact fun h => leads.wakes (notice.2 h)
  case sleeps => exact fun h => leads.sleeps (eq_false_of_ne_true (mt notice.1 h))

/-- Settles O49: the decision of SETTLING, the sleep timer, the sleep enumeration and the end of the sleep round, each by
the equation of the function that takes it. -/
theorem sleepIsEnteredAndItsFramesOpen : Obligations.SleepIsEnteredAndItsFramesOpen := by
  intro s hv
  refine ⟨fun w ok settling hi hf hw hr => ?sleeps, fun n deep ht => ?frame,
    fun w ok settling hi hf hw hr stopped idle => ?returns, fun e asleep he hl hp hr => ?enumeration,
    fun r q b words id d l p asleep hr ho hq hs he hc hi hp hd => ?round⟩
  case sleeps =>
    obtain ⟨store, attention, reported⟩ := counterReported_rest w ok s
    have decided := settlingDecision_sleeps (s := { s with store := store, attention := attention }) settling hw
    have ends := exec_settlingWriteEnd (ok := ok) hv hi hf
      (by rw [reported, decided]; exact fun held => by cases hr.symm.trans held)
    rw [reported, decided] at ends
    obtain ⟨next, started⟩ := startNextWrite_rest (State.enterDeepSleep { s with store := store, attention := attention })
    rw [started] at ends
    obtain ⟨hen, attn⟩ := drive_asleep
      (t := { State.enterDeepSleep { s with store := store, attention := attention } with store := next }) hv rfl
    exact ⟨_, ends, rfl, rfl, rfl, rfl, hen, attn, rfl, rfl, rfl, rfl, rfl⟩
  case frame =>
    rw [← sleepTimerExpired_due deep ht]
    exact event_of_supply _ s hv
  case returns =>
    obtain ⟨store, attention, reported⟩ := counterReported_rest w ok s
    have decided := settlingDecision_returns (s := { s with store := store, attention := attention }) settling hw
    obtain ⟨number, opened, power, cause⟩ :=
      frameStart_counts (s := returning { s with store := store, attention := attention }) rfl
    obtain ⟨vsup, seq⟩ :=
      frameStart_leaves (s := returning { s with store := store, attention := attention }) rfl stopped idle
    have ends := exec_settlingWriteEnd (ok := ok) hv hi hf
      (by rw [reported, decided, power]; exact fun held => by cases hr.symm.trans held)
    rw [reported, decided] at ends
    generalize (returning { s with store := store, attention := attention }).frameStart = u
      at ends number opened power cause vsup seq
    obtain ⟨next, started⟩ := startNextWrite_rest u
    rw [started] at ends
    have hen := drive_awake (t := { u with store := next }) (vsup.trans hv) (congrArg (·.state.hen) power)
    exact ⟨_, ends, congrArg (·.state) power, congrArg (·.record) power, congrArg (·.wakeSet) power, cause, hen, opened,
      number, seq⟩
  case enumeration =>
    intro lost
    have silence := enumSilenceExpired_sleepFrame he hl hp
    have ends : exec .enumSilenceExpiry s = .next ((enumerated e.found s).startSleepRound e.found).drive := by
      rw [← silence]
      exact event_of_supply _ s hv
    refine ⟨fun points due hw found => ?again, fun points due causes => ?wakes, fun x rest near hq => ?reads⟩
    case again =>
      have whole := enumerated_found found
      have slept := sleepRoundEnded_sleeps (s := enumerated e.found s) due (by rw [whole]; exact hw)
      rw [ends, startSleepRound_empty (s := enumerated e.found s) e.found points hr, slept, whole]
    case wakes =>
      have woken := sleepRoundEnded_wakes (s := enumerated e.found s) due (enumerated_causes causes)
      rw [startSleepRound_empty (s := enumerated e.found s) e.found points hr, woken] at ends
      have hen := drive_awake (t := (enumerated e.found s).enterWaking) hv rfl
      exact ⟨_, ends, rfl, hen, enumerated_lost, fun h => congrArg (·.power.wakeSet) (enumerated_found h), rfl, rfl, rfl,
        rfl⟩
    case reads =>
      obtain ⟨r, u, queue, inSleep, began, table, chain, power⟩ :=
        startSleepRound_reads (s := enumerated e.found s) (found := e.found) hr near hq
      have ring := beganRound_chain r x u
      rw [chain] at ring
      rw [began] at ends
      refine ⟨_, r, ends, ?_, congrArg (·.round) ring, inSleep, queue, congrArg (·.tag) ring, congrArg (·.read) ring,
        congrArg (·.sent) ring, fun h => ?_, fun h => ?_, table⟩
      · exact (congrArg (·.state) power).trans asleep
      · exact (congrArg (·.wakeSet) power).trans (enumerated_lost h)
      · exact (congrArg (·.wakeSet) power).trans (congrArg (·.power.wakeSet) (enumerated_found h))
  case round =>
    intro m wakes
    obtain ⟨z, taken, given⟩ := upMessage_givesSleepRound asleep hr ho hq hs he hc hi hp
    have due := given.due.trans hd
    obtain ⟨table, round, read, vsup⟩ := sleepRoundEnded_leaves due
    have ends : exec (.blockReply b) s = .next z.sleepRoundEnded.drive := by
      rw [← taken]
      exact event_of_supply _ s hv
    have supply : z.sleepRoundEnded.vsup = true := vsup.trans (given.vsup.trans hv)
    have causes : s.power.wakeSet ≠ .none ∨ wakes → z.power.wakeSet ≠ .none := by
      intro h
      by_cases notice : wakes
      · rw [given.wakes notice]
        exact fun empty => nomatch congrArg (·.point) empty
      · rw [given.sleeps notice]
        exact h.resolve_right notice
    refine ⟨_, ends, (point_of_table z _ (congrArg (·.points) table) id).trans given.record, round.trans given.round,
      read.trans given.read, fun hw quiet => ?_, fun h => ?_, fun notice => ?_⟩
    · have power := given.sleeps quiet
      have slept := sleepRoundEnded_sleeps due (by rw [power]; exact hw)
      rw [slept] at supply ⊢
      refine ⟨rfl, ?_, ?_, (drive_asleep supply rfl).1, ?_⟩
      · exact (congrArg (·.wakeSet) power).trans hw
      · exact congrArg (some ·.active.sleepPeriod) given.clock
      · exact congrArg (· ++ [withCrc8 [0x03]]) given.sent
    · have woken := sleepRoundEnded_wakes due (causes h)
      rw [woken] at supply ⊢
      exact ⟨rfl, drive_awake supply rfl, congrArg (· ++ [withCrc8 [0x02]]) given.sent⟩
    · have woken := sleepRoundEnded_wakes due (causes (.inr notice))
      have power := given.wakes notice
      rw [woken]
      exact ⟨congrArg (·.wakeSet) power, congrArg (·.firstPoint) power⟩

end Sys2Proof.Proofs
